-- ==== Sys2Proof/Word.lean ====
section
/-! DEFINITION. The word types of PSMCA and their plainest arithmetic (00_scope.md R8, R10). -/

namespace Sys2Proof

/-- A 32-bit word: the width of every architectural access (20_memory.md R76, R78). -/
abbrev Word := BitVec 32

/-- An 8-bit field of a descriptor (30_encoding.md R93). -/
abbrev Byte := BitVec 8

/-- The word that holds an integer below 2^32 (00_scope.md R8). -/
def wordOf (n : Nat) : Word := BitVec.ofNat 32 n

/-- A bool packed into a word stands for 1 or 0 (00_scope.md R10). -/
def wordOfBool (b : Bool) : Word := if b then 1#32 else 0#32

/-- A non-negative rational `num / den`, kept as a pair and not reduced (00_scope.md R9). -/
structure Rate where
  num : Nat
  den : Nat
  deriving DecidableEq, Repr, Inhabited

/-- An integer as a rational. -/
def Rate.ofNat (n : Nat) : Rate := ⟨n, 1⟩

end Sys2Proof
end

