-- ==== Sys2Proof/Config.lean ====
section
/-! DEFINITION. The configuration record `Cfg` of 00_scope.md R7, its constraints (U25), the defaults of the
spec's vectors, and the free values: constants with no body, for what the spec leaves unspecified. -/

namespace Sys2Proof

/-- The pulse-generation program variants (10_state.md R25). -/
inductive Variant where
  | twoWire
  | fourWire
  | twoWireReversed
  deriving DecidableEq, Repr, Inhabited

/-- `Cfg.Numerics` (00_scope.md R7, R9, U16): the exact reference instance, or another instance, of which the
model knows nothing but its number (log 10). -/
inductive Numerics where
  | exact
  | other (id : Nat)
  deriving DecidableEq, Repr, Inhabited

/-- The number of pulse-generator banks: "a primary then a secondary bank" (00_scope.md R7, fixed 2). -/
def Config.nBank : Nat := 2

/-- The implementation parameters (00_scope.md R7; `base` is the BASE of 20_memory.md R75). -/
structure Cfg where
  nDev : Nat
  nCC : Nat
  pgpb : Nat
  ccAvail : List Nat
  pgAvail : List Nat
  numSteps : Nat
  maxRate : Nat
  minDelay : Nat
  dirPol : Bool
  minSlice : Nat
  qDepth : Nat
  /-- `none` is the unbounded stack of 42_ramp_stack.md R171. -/
  stackDepth : Option Nat
  multiResetsDelay : Bool
  numerics : Numerics
  base : Nat
  deriving DecidableEq, Repr, Inhabited

/-- The number of pulse-generator channels, `2·PGPB` (10_state.md R23). -/
def Cfg.nPG (c : Cfg) : Nat := Config.nBank * c.pgpb

/-- A set of channel numbers below `n`: strictly rising, so that equal sets are equal lists. -/
def isChannelSet (n : Nat) (l : List Nat) : Bool :=
  decide (l.Pairwise (· < ·)) && l.all (fun c => decide (c < n))

/-- The constraints of the parameter table (00_scope.md R7); a record that breaks one "is not a PSMCA" (U25).
A word-aligned BASE is the model's own (log 18). -/
def Cfg.ok (c : Cfg) : Bool :=
  decide (1 ≤ c.nDev) && (decide (c.nDev ≤ 254) && (decide (1 ≤ c.nCC) && (decide (c.nCC ≤ 32) &&
  (decide (1 ≤ c.pgpb) && (isChannelSet c.nCC c.ccAvail && (isChannelSet c.nPG c.pgAvail &&
  (decide (1 ≤ c.numSteps) && (decide (1 ≤ c.maxRate) && (decide (c.maxRate ≤ 429496729) &&
  (decide (c.minDelay < 2 ^ 30) && (decide (1 ≤ c.qDepth) &&
  (c.stackDepth.all (fun n => decide (1 ≤ n)) && decide (c.base % 4 = 0)))))))))))))

/-- The defaults of 00_scope.md R7, the configuration of 95_test_vectors.md section 1 (log 1); BASE is the
model's (log 18). -/
def Cfg.vectors : Cfg where
  nDev := 8
  nCC := 12
  pgpb := 4
  ccAvail := List.range 12
  pgAvail := List.range 8
  numSteps := 100
  maxRate := 100000
  minDelay := 0
  dirPol := false
  minSlice := 0
  qDepth := 4
  stackDepth := none
  multiResetsDelay := true
  numerics := .exact
  base := 0

/-! Free values. Each is read with the counter `State.freeIx`, or with the operands it depends on. -/

/-- FREE VALUE: `variant` after ALLOC (10_state.md R53, log 4). -/
opaque Config.freeVariant : Nat → Variant

/-- FREE VALUE: `base_pin` after ALLOC (10_state.md R53, log 4). -/
opaque Config.freePin : Nat → BitVec 8

/-- FREE VALUE: `clkdiv` after ALLOC (10_state.md R53, log 4). -/
opaque Config.freeDivisor : Nat → BitVec 32

/-- FREE VALUE: the delay stored where set_delay is handed 2^30 or more, which 41_encoder.md R144 does not
define (log 10). -/
opaque Config.freeDelay : Nat → BitVec 30

/-- FREE VALUE: `coasting_slices` after an increment that does not fit 32 bits (log 11). -/
opaque Config.freeCoast : Nat → BitVec 32

/-- FREE VALUE: what GET returns for a field that is a number of 2^32 or more, by that number: the spec gives the field
in 32 bits and does not say what is read where it does not fit (30_encoding.md R104, log 27). -/
opaque Config.freeWide : Nat → BitVec 32

/-- FREE VALUE: `speed_to_delay` of an instance of `Numerics` other than the exact one (00_scope.md R9, log 10). -/
opaque Config.otherS2d : Cfg → Rate → BitVec 32

/-- FREE VALUE: `delay_to_speed` of such an instance (log 10). -/
opaque Config.otherD2s : Cfg → Nat → Rate

/-- FREE VALUE: `project` of such an instance (log 10). -/
opaque Config.otherProject : Cfg → Rate → Rate → Rate

end Sys2Proof
end

