-- ==== Sys2Proof/Syntax.lean ====
section
/-! DEFINITION. The commands of PSMCA as syntax: one constructor per row of spec/opcode_table.json
(30_encoding.md R92, R94, R96, R97). -/

namespace Sys2Proof

/-- A command with its operands. `dev` is the 8-bit handle; signed operands (`pos`, `target`, `delayStep`) are
kept as the words that carry them and read with `BitVec.toInt` (R96). -/
inductive Instr where
  | alloc
  | config2 (dev dirPin stepPin : Byte) (clkdiv : Word)
  | config4 (dev basePin : Byte) (clkdiv : Word)
  | setDir (dev : Byte) (dir : Bool)
  | setEn (dev : Byte) (en : Bool)
  | setDelay (dev : Byte) (delay : Word)
  | setAccel (dev : Byte) (rate : Word)
  | setPos (dev : Byte) (pos : Word)
  | setMinspd (dev : Byte) (rate : Word)
  | setMaxspd (dev : Byte) (rate : Word)
  | spd2dly (rate : Word)
  | dly2spd (delay : Word)
  | get (dev field : Byte)
  | stkPush (dev : Byte) (value : Word)
  | stkPop (dev : Byte)
  | moveAsyncNone (dev : Byte) (steps : Word)
  | moveAsyncRamp (dev : Byte) (steps : Word)
  | moveAsyncUser (dev tag : Byte) (steps : Word)
  | moveBlock (dev : Byte) (dir : Bool) (steps startDelay delayStep : Word)
  | waitIdle (dev : Byte)
  | moveTo (dev : Byte) (target : Word)
  | moveMulti (sequential : Bool) (axes : List (Byte × Word))
  deriving DecidableEq, Repr

/-- A macro command may dispatch bursts and wait; every other command is simple (30_encoding.md R95). -/
def Instr.isMacro : Instr → Bool
  | .moveBlock _ _ _ _ _ | .waitIdle _ | .moveTo _ _ | .moveMulti _ _ => true
  | .alloc | .config2 _ _ _ _ | .config4 _ _ _ | .setDir _ _ | .setEn _ _ | .setDelay _ _
  | .setAccel _ _ | .setPos _ _ | .setMinspd _ _ | .setMaxspd _ _ | .spd2dly _ | .dly2spd _
  | .get _ _ | .stkPush _ _ | .stkPop _ | .moveAsyncNone _ _ | .moveAsyncRamp _ _
  | .moveAsyncUser _ _ _ => false

end Sys2Proof
end

