-- ==== Sys2Proof/Machine/State.lean ====
section
/-! DEFINITION. The state of PSMCA (10_state.md R20 to R49) as plain data, and the state after reset (R52, R301). -/

namespace Sys2Proof.Machine

/-- The completion callback of a device (10_state.md R36). -/
inductive Callback where
  | none
  | ramp
  | user (tag : Byte)
  deriving DecidableEq, Repr

/-- `acceleration_direction`: -1, 0, +1 (10_state.md R34). -/
inductive AccelDir where
  | down
  | coast
  | up
  deriving DecidableEq, Repr

/-- One device slot (10_state.md R21 to R38). `stack` has its most recent element last. -/
structure Device where
  inUse : Bool
  pgChan : Nat
  ccChan : Nat
  configured : Bool
  variant : Variant
  basePin : Byte
  clkdiv : Word
  enabled : Bool
  direction : Bool
  delay : Word
  command : Word
  position : Word
  running : Bool
  acceleration : Word
  movAccNum : BitVec 64
  movAccDen : Word
  accelDir : AccelDir
  coastingSlices : Word
  callback : Callback
  minSpeed : Option Word
  maxSpeed : Option Word
  stack : List Word
  deriving DecidableEq, Repr

/-- A slot after reset: not in use; every other field is unspecified (R52) and holds the value log 2 names. -/
def Device.reset : Device where
  inUse := false
  pgChan := 0
  ccChan := 0
  configured := false
  variant := .twoWire
  basePin := 0#8
  clkdiv := 0#32
  enabled := false
  direction := false
  delay := 0#32
  command := 0#32
  position := 0#32
  running := false
  acceleration := 0#32
  movAccNum := 0#64
  movAccDen := 1#32
  accelDir := .coast
  coastingSlices := 0#32
  callback := .none
  minSpeed := none
  maxSpeed := none
  stack := []

/-- The transfer state of one completion channel (10_state.md R47). -/
structure Xfer where
  count : Word
  active : Bool
  slot : Nat
  deriving DecidableEq, Repr

/-- A completion channel after reset (R52); its slot is unspecified and holds the value log 3 names. -/
def Xfer.reset : Xfer := ⟨0#32, false, 0⟩

/-- The error kinds of 30_encoding.md R98. -/
inductive ErrorKind where
  | resourceExhausted
  | invalidDevice
  | alreadyRunning
  | delayOutOfRange
  | notConfigured
  | badArgument
  | illegalCommand
  deriving DecidableEq, Repr

/-- The result of a command (30_encoding.md R98). -/
structure Result where
  err : Byte
  value : Word
  value2 : Word
  deriving DecidableEq, Repr

/-- The phases of a macro move (10_state.md R45). -/
inductive Phase where
  | accel
  | remainder
  | decel
  deriving DecidableEq, Repr

/-- One axis of MOVE_MULTI's context (45_multi_axis.md R243). -/
structure Axis where
  slot : Nat
  dist : Nat
  per : Nat
  remaining : Int
  deriving DecidableEq, Repr

/-- MOVE_MULTI's context `ctx` (45_multi_axis.md R243); `n` is the length of `axes`. -/
structure MultiCtx where
  axes : List Axis
  mostSteps : Nat
  accelerationSteps : Nat
  half : Nat
  sequential : Bool
  deriving DecidableEq, Repr

/-- The control state of the macro sequencer (10_state.md R45), with the constants of the move that its tuples do
not show (log 13). `block`: `k` words still to push, next delay `v`, an integer that may leave the range. -/
inductive Seq where
  | idle
  | block (i k : Nat) (v : Int) (dir : Bool) (delayStep : Int)
  | blockDrain (i : Nat) (res : Result)
  | waitIdle (i : Nat)
  | to (i : Nat) (phase : Phase) (k rem half : Nat)
  | toWait (i : Nat) (phase : Phase) (k rem half : Nat)
  | multi (ctx : MultiCtx) (phase : Phase) (k j : Nat) (set : List Nat)
  | multiWait (ctx : MultiCtx) (phase : Phase) (k j : Nat) (set : List Nat)
  deriving DecidableEq, Repr

/-- The agents that can take a step (00_scope.md R12), and the platform that asserts reset (R300). The host
handler steps inside `dispatcher`. -/
inductive Agent where
  | host
  | sequencer
  | burst (c : Nat)
  | pulseGen (p : Nat)
  | dispatcher
  | platformReset
  deriving DecidableEq, Repr

/-- One access of the host to a bus address, `size` in bytes (20_memory.md R75 to R77). -/
inductive HostOp where
  | read (addr size : Nat)
  | write (addr size : Nat) (data : Word)
  deriving DecidableEq, Repr

/-- What the host sees of an access: the word read, a write taken, a write ignored (R75, U19, U24), an access
outside the window or not an aligned word (U12, log 8). -/
inductive HostReply where
  | data (w : Word)
  | taken
  | ignored
  | rejected
  deriving DecidableEq, Repr

/-- What passes between a dispatch and the handler oracle (60_exceptions.md R279): the call, and each result. -/
inductive HandlerEvent where
  | call (tag : Byte) (slot : Nat)
  | result (r : Result)
  deriving DecidableEq, Repr

/-- The state of the machine. From `schedule` on the fields are the model's own: the parameters of the step
relation (10_state.md R51) and what the outside has seen so far. -/
structure State where
  /-- 00_scope.md R7; no step changes it (log 1). -/
  cfg : Cfg
  /-- The device field file, R21. -/
  dev : List Device
  /-- R40. -/
  chanMap : List (Option Nat)
  /-- R41, strictly rising. -/
  ccFree : List Nat
  /-- R41, strictly rising. -/
  pgFree : List Nat
  /-- R42. -/
  irqFlags : Word
  /-- R43. -/
  irqEnable : Word
  /-- The sticky fault word, R44. -/
  fault : Word
  /-- R45. -/
  seq : Seq
  /-- R46. -/
  cmdBusy : Bool
  /-- The result registers, R46. -/
  result : Result
  /-- The words already written of the descriptor that is being written to `CMD` (R75, log 20). -/
  cmdBuf : List Word
  /-- R47, one per completion channel. -/
  xfer : List Xfer
  /-- R48, one per pulse-generator channel, head first. -/
  pgq : List (List Word)
  /-- The observation of R49, one per pulse-generator channel, oldest first. -/
  pulseLog : List (List Word)
  /-- The agents still to step, next first (log 5). -/
  schedule : List Agent
  /-- The host's next accesses, next first; a run supplies them anew before every step (`Safety.Outside`, log 7). -/
  hostOps : List HostOp
  /-- The replies to the host's accesses so far, oldest first. -/
  hostLog : List HostReply
  /-- The handler oracle's next answers, one list of commands per call; a run supplies them anew before every step
  (`Safety.Outside`, log 6). -/
  handlers : List (List Instr)
  /-- The handler calls so far and the results handed back, oldest first. -/
  handlerLog : List HandlerEvent
  /-- The counter free values are read with (log 4). -/
  freeIx : Nat
  deriving DecidableEq, Repr

/-- Why the machine stops with a fault: it never does. Every undefined situation of the spec sets a sticky bit of
`State.fault` and the machine goes on (60_exceptions.md R271), so this type has no constructor. -/
inductive Fault where
  deriving DecidableEq, Repr

/-- Why the model refuses a step. -/
inductive Refusal where
  /-- Raised by `exec` for an instruction without a meaning; no arm raises it in this model. Safe. -/
  | notModelled (mnemonic : String)
  /-- Raised by `step` alone, on a configuration that breaks a constraint of 00_scope.md R7: "such a `Cfg` is not a
  PSMCA" (U25, log 15). Safe. -/
  | invalidConfig
  deriving DecidableEq, Repr

/-- The state after reset for a configuration (10_state.md R52, 70_reset_and_hazards.md R301). -/
def State.resetOf (cfg : Cfg) : State where
  cfg := cfg
  dev := List.replicate cfg.nDev Device.reset
  chanMap := List.replicate cfg.nCC none
  ccFree := cfg.ccAvail
  pgFree := cfg.pgAvail
  irqFlags := 0#32
  irqEnable := 0#32
  fault := 0#32
  seq := .idle
  cmdBusy := false
  result := ⟨0#8, 0#32, 0#32⟩
  cmdBuf := []
  xfer := List.replicate cfg.nCC Xfer.reset
  pgq := List.replicate cfg.nPG []
  pulseLog := List.replicate cfg.nPG []
  schedule := []
  hostOps := []
  hostLog := []
  handlers := []
  handlerLog := []
  freeIx := 0

/-- The machine's constructor, which rejects a `Cfg` that breaks a constraint (U25). -/
def State.powerUp (cfg : Cfg) : Option State := if cfg.ok then some (State.resetOf cfg) else none

/-- The machine right after reset, with the configuration of the spec's vectors (log 1). -/
def State.reset : State := State.resetOf Cfg.vectors

end Sys2Proof.Machine
end

