-- ==== Sys2Proof/Machine/Flags.lean ====
section
/-! DEFINITION. Every status flag of PSMCA (10_state.md R50): the sticky fault bits, the completion flags and
enables, the interrupt line, the status word, the error codes. -/

namespace Sys2Proof.Machine

/-! ## Sticky faults (60_exceptions.md R271) -/

/-- Bit 0: push on a full ramp stack. -/
def fStackOvf : Word := 0x01#32
/-- Bit 1: a decelerating ramp callback popped an empty stack. -/
def fStackEmpty : Word := 0x02#32
/-- Bit 2: an accelerating ramp callback found `max_speed` unset. -/
def fUnset : Word := 0x04#32
/-- Bit 3: MOVE_BLOCK's ramp left the 30-bit range. -/
def fBlockRange : Word := 0x08#32
/-- Bit 4: an internal dispatch was refused, or a remainder did not fit 32 bits. -/
def fSeqDispatch : Word := 0x10#32
/-- Bit 5: a completion flag for a channel with no slot mapped. -/
def fUnmapped : Word := 0x20#32

/-- `fault(F)`: set sticky bits (00_scope.md R11, 60_exceptions.md R271). -/
def State.raiseFault (s : State) (f : Word) : State := { s with fault := s.fault ||| f }

/-! ## Completion flags (10_state.md R42, R43; 60_exceptions.md R273) -/

/-- The word with bit `c` alone set. -/
def bitAt (c : Nat) : Word := 1#32 <<< c

/-- Sets completion flag `c` (43_step_engine.md R190). -/
def State.setIrqFlag (s : State) (c : Nat) : State := { s with irqFlags := s.irqFlags ||| bitAt c }

/-- Enables the completion interrupt of channel `c` (40_registry.md R121). -/
def State.setIrqEnable (s : State) (c : Nat) : State := { s with irqEnable := s.irqEnable ||| bitAt c }

/-- The flags a dispatch would take, `irq_flags & irq_enable` (20_memory.md R84). -/
def State.pending (s : State) : Word := s.irqFlags &&& s.irqEnable

/-- The shared interrupt line: asserted exactly when an enabled flag is set (R43, R273). -/
def State.irqLine (s : State) : Bool := s.pending != 0#32

/-- The dispatcher's read-and-clear of the completion flags, the one read-modify-write of the block
(20_memory.md R84): the flags taken, and the state without them. -/
def State.takeFlags (s : State) : Word × State :=
  (s.pending, { s with irqFlags := s.irqFlags &&& ~~~s.pending })

/-- The `STATUS` register: bit 0 `cmd_busy`, bit 1 the line, the rest zero (20_memory.md R75). -/
def State.statusWord (s : State) : Word := wordOfBool s.cmdBusy ||| wordOfBool s.irqLine <<< 1

/-! ## Results (30_encoding.md R98; 60_exceptions.md R266) -/

/-- The code of an error kind. -/
def ErrorKind.code : ErrorKind → Byte
  | .resourceExhausted => 1#8
  | .invalidDevice => 2#8
  | .alreadyRunning => 3#8
  | .delayOutOfRange => 4#8
  | .notConfigured => 5#8
  | .badArgument => 6#8
  | .illegalCommand => 7#8

/-- `return ok(value, value2)`. -/
def Result.ok2 (value value2 : Word) : Result := ⟨0#8, value, value2⟩

/-- `return ok(value)`. -/
def Result.okValue (value : Word) : Result := Result.ok2 value 0#32

/-- `return ok`. -/
def Result.ok : Result := Result.okValue 0#32

/-- `return fail(E)`. -/
def Result.fail (e : ErrorKind) : Result := ⟨e.code, 0#32, 0#32⟩

/-- ALLOC's failure, whose value is the sentinel handle 0xFF (40_registry.md R124). -/
def Result.exhausted : Result := ⟨ErrorKind.resourceExhausted.code, 0xFF#32, 0#32⟩

/-- A thread-context command ends: its result is latched and `cmd_busy` falls in the same step (R266). -/
def State.latch (s : State) (r : Result) : State := { s with result := r, cmdBusy := false }

/-- A macro command ends: `seq <- Idle; return r` (10_state.md R45). -/
def State.endMacro (s : State) (r : Result) : State := { s with seq := .idle, result := r, cmdBusy := false }

/-- A macro command is accepted: it holds the command port while `seq` runs (R45, R46). -/
def State.beginMacro (s : State) (q : Seq) : State := { s with seq := q, cmdBusy := true }

/-- `seq <- q` (00_scope.md R11). -/
def State.setSeq (s : State) (q : Seq) : State := { s with seq := q }

end Sys2Proof.Machine
end

