-- ==== Sys2Proof/Machine/Operands.lean ====
section
/-! DEFINITION. What the operands of a command stand for: the handle check (60_exceptions.md R268), the control
word (30_encoding.md R90, R91), the rate functions (41_encoder.md R150 to R152), signed operands, pin order, GET's
field words (30_encoding.md R104). -/

namespace Sys2Proof

/-! ## Rates -/

/-- `s2d` of the exact instance, for a rate above 0: `floor(max(10·MAXRATE / r − 10, 0))` (R150). -/
def Cfg.exactS2d (c : Cfg) (r : Rate) : Nat := (10 * c.maxRate * r.den) / r.num - 10

/-- `d2s` of the exact instance: `MAXRATE / ((d / 10) + 1)`, that is `10·MAXRATE / (d + 10)` (R151). -/
def Cfg.exactD2s (c : Cfg) (d : Nat) : Rate := ⟨10 * c.maxRate, d + 10⟩

/-- `project` of the exact instance: `v + a · (NUMSTEPS / v)` (R152). -/
def Cfg.exactProject (c : Cfg) (v a : Rate) : Rate :=
  ⟨v.num * v.num * a.den + a.num * c.numSteps * v.den * v.den, v.num * v.den * a.den⟩

/-- `s2d`, speed to delay, of the configured instance (00_scope.md R9, 41_encoder.md R150). -/
def Cfg.s2d (c : Cfg) (r : Rate) : Nat :=
  match c.numerics with
  | .exact => c.exactS2d r
  | .other _ => (Config.otherS2d c r).toNat

/-- `d2s`, delay to speed, of the configured instance (R151). -/
def Cfg.d2s (c : Cfg) (d : Nat) : Rate :=
  match c.numerics with
  | .exact => c.exactD2s d
  | .other _ => Config.otherD2s c d

/-- `project` of the configured instance (R152). -/
def Cfg.project (c : Cfg) (v a : Rate) : Rate :=
  match c.numerics with
  | .exact => c.exactProject v a
  | .other _ => Config.otherProject c v a

/-- The delay that a host-supplied integer rate implies. -/
def Cfg.rateDelay (c : Cfg) (rate : Word) : Nat := c.s2d (Rate.ofNat rate.toNat)

/-- A requested direction as the wire value, `dir ^ DIRPOL` (10_state.md R27). -/
def Cfg.wireDir (c : Cfg) (dir : Bool) : Bool := dir ^^ c.dirPol

end Sys2Proof

namespace Sys2Proof.Machine

/-! ## Device slots -/

/-- `dev[i]`, and the reset slot where there is no slot `i`. -/
def State.device (s : State) (i : Nat) : Device := s.dev.getD i Device.reset

/-- `dev[i] <- d`. -/
def State.setDevice (s : State) (i : Nat) (d : Device) : State := { s with dev := s.dev.set i d }

/-- A change of one slot's fields. -/
def State.modDevice (s : State) (i : Nat) (f : Device → Device) : State := s.setDevice i (f (s.device i))

/-- The invalid-handle sentinel (30_encoding.md R96). -/
def invalidDevice : Byte := 0xFF#8

/-- `check handle`: not the sentinel, below NDEV, in use (R268). -/
def State.validHandle (s : State) (h : Byte) : Bool :=
  h != invalidDevice && decide (h.toNat < s.cfg.nDev) && (s.device h.toNat).inUse

/-! ## The control word -/

/-- A delay is in range below 2^30 (10_state.md R28). -/
def delayLimit : Nat := 2 ^ 30

/-- `encode(delay, direction, enabled)` in 32 bits (R90, R141). -/
def encodeControl (delay : Word) (direction enabled : Bool) : Word :=
  ((delay <<< 1 ||| wordOfBool direction) <<< 1) ||| wordOfBool enabled

/-- The pulse generator's decoding of a control word (R91). -/
def decodeControl (w : Word) : Word × Bool × Bool := (w >>> 2, w.getLsbD 1, w.getLsbD 0)

/-- `recompute(i)` on the slot's record (R141). -/
def Device.recompute (d : Device) : Device :=
  { d with command := encodeControl d.delay d.direction d.enabled }

/-- `moving_acceleration` as a rational (10_state.md R33). -/
def Device.movingAcceleration (d : Device) : Rate := ⟨d.movAccNum.toNat, d.movAccDen.toNat⟩

/-! ## Positions -/

/-- `|target − position|`, computed without wrap (41_encoder.md R156). -/
def distance (target position : Word) : Nat := (target.toInt - position.toInt).natAbs

/-- `target > position`, both signed (44_accel_controller.md R222). -/
def movesUp (target position : Word) : Bool := decide (position.toInt < target.toInt)

/-! ## Pins (40_registry.md R125) -/

/-- The two-wire variant for a pair of distinct pins, and the lower pin. -/
def twoWireChoice (dirPin stepPin : Byte) : Variant × Byte :=
  if stepPin.toNat < dirPin.toNat then (.twoWire, stepPin) else (.twoWireReversed, dirPin)

/-! ## GET's words (30_encoding.md R104) -/

/-- `acceleration_direction` as two's complement. -/
def AccelDir.word : AccelDir → Word
  | .down => 0xFFFFFFFF#32
  | .coast => 0#32
  | .up => 1#32

/-- `callback`: kind in bits 1:0, tag in bits 15:8. -/
def Callback.word : Callback → Word
  | .none => 0#32
  | .ramp => 1#32
  | .user tag => tag.zeroExtend 32 <<< 8 ||| 2#32

/-- A speed: the rate or 0, and whether it is set. -/
def speedResult : Option Word → Result
  | none => Result.ok2 0#32 0#32
  | some rate => Result.ok2 rate 1#32

/-- A field that is a number, in 32 bits; a free value for a number that does not fit (log 27). -/
def fieldWord (n : Nat) : Word := if n < 2 ^ 32 then wordOf n else Config.freeWide n

/-- A per-device field by its identifier; `none` for an identifier above 0x11. -/
def Device.field (d : Device) (field : Byte) : Option Result :=
  match field.toNat with
  | 0x00 => some (Result.okValue (wordOfBool d.enabled))
  | 0x01 => some (Result.okValue (wordOfBool d.direction))
  | 0x02 => some (Result.okValue d.delay)
  | 0x03 => some (Result.okValue d.command)
  | 0x04 => some (Result.okValue d.position)
  | 0x05 => some (Result.okValue (wordOfBool d.running))
  | 0x06 => some (Result.okValue d.acceleration)
  | 0x07 => some (Result.ok2 (d.movAccNum.extractLsb' 0 32) (d.movAccNum.extractLsb' 32 32))
  | 0x08 => some (Result.okValue d.movAccDen)
  | 0x09 => some (Result.okValue d.accelDir.word)
  | 0x0A => some (Result.okValue d.coastingSlices)
  | 0x0B => some (Result.okValue d.callback.word)
  | 0x0C => some (Result.okValue (fieldWord d.stack.length))
  | 0x0D => some (Result.okValue (wordOfBool d.configured))
  | 0x0E => some (Result.okValue (fieldWord d.pgChan))
  | 0x0F => some (Result.okValue (fieldWord d.ccChan))
  | 0x10 => some (speedResult d.minSpeed)
  | 0x11 => some (speedResult d.maxSpeed)
  | _ => none

/-- A global field by its identifier. -/
def State.globalField (s : State) (field : Byte) : Option Word :=
  match field.toNat with
  | 0x80 => some s.irqFlags
  | 0x81 => some s.irqEnable
  | 0x82 => some s.fault
  | _ => none

end Sys2Proof.Machine
end

