-- ==== Sys2Proof/Machine/Ops.lean ====
section
/-! DEFINITION. The operations the meanings share: control-word cells and queues (20_memory.md R70 to R74),
set_delay (41_encoder.md R144), the ramp stack (42_ramp_stack.md R171 to R173), arming a burst
(43_step_engine.md R186, R189), and the completion interrupt's entry (60_exceptions.md R275, R277). -/

namespace Sys2Proof

/-- The delay field's new value for an integer in range: clamped to MINDELAY (R144). -/
def Cfg.clampDelay (c : Cfg) (v : Nat) : Word := wordOf (max v c.minDelay)

/-- A finite stack is full (R171). -/
def Cfg.stackFull (c : Cfg) (stack : List Word) : Bool :=
  match c.stackDepth with
  | none => false
  | some n => decide (n ≤ stack.length)

end Sys2Proof

namespace Sys2Proof.Machine

/-! ## Memory -/

/-- `MemRead(CW(i), 4)`: the control word of slot i as it is now (R72). -/
def State.readCW (s : State) (i : Nat) : Word := (s.device i).command

/-- The input queue of pulse-generator channel `p`. -/
def State.queue (s : State) (p : Nat) : List Word := s.pgq.getD p []

/-- The words channel `p` has consumed (10_state.md R49). -/
def State.log (s : State) (p : Nat) : List Word := s.pulseLog.getD p []

/-- Replaces the queue of channel `p`. -/
def State.setQueue (s : State) (p : Nat) (q : List Word) : State := { s with pgq := s.pgq.set p q }

/-- The queue of channel `p` holds QDEPTH words: a writer waits (R73). -/
def State.queueFull (s : State) (p : Nat) : Bool := decide (s.cfg.qDepth ≤ (s.queue p).length)

/-- `MemWrite(PGQ(i), 4, w)`: appends `w` to the queue of slot i's pulse-generator channel (R73). -/
def State.writePGQ (s : State) (i : Nat) (w : Word) : State :=
  let p := (s.device i).pgChan
  s.setQueue p (s.queue p ++ [w])

/-- The transfer state of completion channel `c`. -/
def State.xferOf (s : State) (c : Nat) : Xfer := s.xfer.getD c Xfer.reset

/-- Replaces the transfer state of channel `c`. -/
def State.setXfer (s : State) (c : Nat) (x : Xfer) : State := { s with xfer := s.xfer.set c x }

/-- `chan_map[c]`. -/
def State.slotOf (s : State) (c : Nat) : Option Nat := s.chanMap.getD c none

/-- Advances the counter of the free values. -/
def State.tick (s : State) : State := { s with freeIx := s.freeIx + 1 }

/-! ## set_delay -/

/-- The procedure `set_delay(i, v)` (R144). For `v ≥ 2^30`, where the spec defines no value, a free delay is
stored in its place (log 10). -/
def State.setDelay (s : State) (i v : Nat) : State :=
  if v < delayLimit then
    s.modDevice i fun d => { d with delay := s.cfg.clampDelay v }.recompute
  else
    (s.modDevice i fun d =>
      { d with delay := s.cfg.clampDelay (Config.freeDelay s.freeIx).toNat }.recompute).tick

/-! ## The ramp stack -/

/-- `push(i, v)`; on a full stack nothing is stored and `F_STACK_OVF` is set (R171). -/
def State.push (s : State) (i : Nat) (v : Word) : State :=
  if s.cfg.stackFull (s.device i).stack then s.raiseFault fStackOvf
  else s.modDevice i fun d => { d with stack := d.stack ++ [v] }

/-- `pop(i)`: the last element removed, `none` for the signal `Empty` (R172). -/
def State.pop (s : State) (i : Nat) : Option Word × State :=
  ((s.device i).stack.getLast?, s.modDevice i fun d => { d with stack := d.stack.dropLast })

/-- `clear(i)` (R173). -/
def State.clearStack (s : State) (i : Nat) : State := s.modDevice i fun d => { d with stack := [] }

/-! ## Commands -/

/-- The first line of every rule that takes a device: an invalid handle fails and touches nothing (R268). -/
def withHandle (h : Byte) (s : State) (body : Nat → State × Result) : State × Result :=
  if s.validHandle h then body h.toNat else (s, Result.fail .invalidDevice)

/-- A simple command in thread context: its result is latched in the same step (R266). -/
def simpleCommand (out : State × Result) : Host.Outcome State Fault Refusal := .next (out.1.latch out.2)

/-- A macro command's prologue in thread context: it fails as a complete no-op, or it ends at once with a result,
or it starts the sequencer (R45, R46). -/
inductive Prologue where
  | ends (r : Result)
  | starts (s : State) (q : Seq)

/-- The state after a prologue. -/
def macroCommand (s : State) (out : Prologue) : Host.Outcome State Fault Refusal :=
  match out with
  | .ends r => .next (s.latch r)
  | .starts s' q => .next (s'.beginMacro q)

/-! ## Bursts -/

/-- The body of MOVE_ASYNC from the `configured` check on (R186): the error, or the state with the transfer armed. -/
def State.startBurst (s : State) (i n : Nat) (cb : Callback) : Except ErrorKind State :=
  let d := s.device i
  if !d.configured then .error .notConfigured
  else if d.running then .error .alreadyRunning
  else if n = 0 then .error .badArgument
  else
    .ok ((s.modDevice i fun d => { d with callback := cb, running := true }).setXfer d.ccChan
      ⟨wordOf n, true, i⟩)

/-- `dispatch(i, n, cb)` of the sequencer: where it yields false, `F_SEQ_DISPATCH` is set and the sequencer goes on
(R189). -/
def State.seqDispatch (s : State) (i n : Nat) (cb : Callback) : State :=
  match s.startBurst i n cb with
  | .ok s' => s'
  | .error _ => s.raiseFault fSeqDispatch

/-! ## The completion interrupt -/

/-- The entry of the shared interrupt for one device: `running` is cleared, before the callback (R277). Nothing is
saved and there is no return (R280). -/
def State.completeDevice (s : State) (i : Nat) : State := s.modDevice i fun d => { d with running := false }

/-- The channels whose flag is in `snap`, ascending (R275, R276). -/
def channelsIn (snap : Word) (nCC : Nat) : List Nat := (List.range nCC).filter fun c => snap.getLsbD c

end Sys2Proof.Machine
end

