-- ==== Sys2Proof/Machine/Accel.lean ====
section
/-! DEFINITION. The single-axis acceleration controller: the ramp callback ACCEL and MOVE_TO
(44_accel_controller.md R215 to R228). -/

namespace Sys2Proof.Machine

/-! ## ACCEL -/

/-- The decelerating branch (R216): one coasting slice unwound, or one delay popped and applied verbatim; an empty
stack leaves the delay and sets `F_STACK_EMPTY` (R217 (a)). -/
def accelDown (i : Nat) (s : State) : State :=
  if (s.device i).coastingSlices = 0#32 then
    match s.pop i with
    | (some r, s') => s'.setDelay i r.toNat
    | (none, _) => s.raiseFault fStackEmpty
  else s.modDevice i fun d => { d with coastingSlices := d.coastingSlices - 1#32 }

/-- The delay the accelerating branch computes before the cap, an integer that may be −1 (R216). -/
def rampDelay (c : Cfg) (initDelay : Nat) (a : Rate) : Int :=
  let d := c.s2d (c.project (c.d2s initDelay) a)
  if d = initDelay then (initDelay : Int) - 1 else d

/-- A slice at the cap counts as a coast (R216); a count that does not fit 32 bits is a free value (log 11). -/
def State.countCoast (s : State) (i : Nat) : State :=
  if (s.device i).coastingSlices = 0xFFFFFFFF#32 then
    (s.modDevice i fun d => { d with coastingSlices := Config.freeCoast s.freeIx }).tick
  else s.modDevice i fun d => { d with coastingSlices := d.coastingSlices + 1#32 }

/-- The accelerating branch (R216); an unset maximum speed sets `F_UNSET` and changes nothing else (R217 (b)). -/
def accelUp (i : Nat) (s : State) : State :=
  match (s.device i).maxSpeed with
  | none => s.raiseFault fUnset
  | some maxSpeed =>
    let initDelay := (s.device i).delay
    let cap := s.cfg.rateDelay maxSpeed
    let d := (max (rampDelay s.cfg initDelay.toNat (s.device i).movingAcceleration) (cap : Int)).toNat
    if d = cap then (s.countCoast i).setDelay i d
    else (s.push i initDelay).setDelay i d

/-- ACCEL(i), the ramp callback (R216). -/
def accelCallback (i : Nat) (s : State) : State :=
  let d := s.device i
  if d.movAccNum = 0#64 then s
  else
    match d.accelDir with
    | .coast => s
    | .down => accelDown i s
    | .up => accelUp i s

/-! ## MOVE_TO -/

/-- The field writes of MOVE_TO's prologue (R222), for a minimum speed that is set. -/
def State.beginMoveTo (s : State) (i : Nat) (target minSpeed : Word) : State :=
  let dir := movesUp target (s.device i).position
  let s1 := s.modDevice i fun d => { d with position := target }
  let s2 := s1.setDelay i (s.cfg.rateDelay minSpeed)
  let s3 := s2.modDevice i fun d =>
    { d with
      coastingSlices := 0#32
      movAccNum := d.acceleration.zeroExtend 64
      movAccDen := 1#32
      direction := s.cfg.wireDir dir
      accelDir := .up }.recompute
  s3.clearStack i

/-- MOVE_TO's prologue (R221, R222). -/
def moveToPrologue (dev : Byte) (target : Word) (s : State) : Prologue :=
  let i := dev.toNat
  if !s.validHandle dev then .ends (Result.fail .invalidDevice)
  else if !(s.device i).configured then .ends (Result.fail .notConfigured)
  else
    match (s.device i).minSpeed, (s.device i).maxSpeed with
    | some minSpeed, some _ =>
      if (s.device i).running then .ends (Result.fail .alreadyRunning)
      else
        let steps := distance target (s.device i).position
        let half := steps / s.cfg.numSteps / 2
        .starts (s.beginMoveTo i target minSpeed) (.to i .accel half (steps % s.cfg.numSteps) half)
    | _, _ => .ends (Result.fail .notConfigured)

/-- MOVE_TO in thread context: accepted, it runs on as the sequencer state `To`. -/
def execMoveTo (dev : Byte) (target : Word) (s : State) : Host.Outcome State Fault Refusal :=
  macroCommand s (moveToPrologue dev target s)

/-- The step of `To(i, phase, k, rem)` (R224 to R226). It is always enabled. -/
def toStep (i : Nat) (phase : Phase) (k rem half : Nat) (s : State) : State :=
  match phase, k with
  | .accel, 0 => s.setSeq (.to i .remainder 0 rem half)
  | .accel, k' + 1 =>
    (s.seqDispatch i s.cfg.numSteps .ramp).setSeq (.toWait i .accel k' rem half)
  | .remainder, _ =>
    if 0 < rem then (s.seqDispatch i rem .none).setSeq (.toWait i .remainder 0 0 half)
    else (s.modDevice i fun d => { d with accelDir := .down }).setSeq (.to i .decel half 0 half)
  | .decel, 0 => s.endMacro Result.ok
  | .decel, k' + 1 =>
    (s.seqDispatch i s.cfg.numSteps .ramp).setSeq (.toWait i .decel k' rem half)

/-- The step of `ToWait(i, phase, k, rem)`: enabled exactly when the device is idle (R197, R224). -/
def toWaitStep (i : Nat) (phase : Phase) (k rem half : Nat) (s : State) : Option State :=
  if (s.device i).running then none else some (s.setSeq (.to i phase k rem half))

end Sys2Proof.Machine
end

