-- ==== Sys2Proof/Machine/Encoder.lean ====
section
/-! DEFINITION. Command encoder, setters, rate converters and GET (41_encoder.md R140 to R157). -/

namespace Sys2Proof.Machine

/-- SET_DIR (R142). -/
def setDirCmd (dev : Byte) (dir : Bool) (s : State) : State × Result :=
  withHandle dev s fun i =>
    (s.modDevice i fun d => { d with direction := s.cfg.wireDir dir }.recompute, Result.ok)

/-- SET_EN (R143). -/
def setEnCmd (dev : Byte) (en : Bool) (s : State) : State × Result :=
  withHandle dev s fun i => (s.modDevice i fun d => { d with enabled := en }.recompute, Result.ok)

/-- SET_DELAY (R145): rejection at 2^30 first, then the clamp of `set_delay`. -/
def setDelayCmd (dev : Byte) (delay : Word) (s : State) : State × Result :=
  withHandle dev s fun i =>
    if delayLimit ≤ delay.toNat then (s, Result.fail .delayOutOfRange)
    else (s.setDelay i delay.toNat, Result.ok)

/-- SET_ACCEL (R146). -/
def setAccelCmd (dev : Byte) (rate : Word) (s : State) : State × Result :=
  withHandle dev s fun i => (s.modDevice i fun d => { d with acceleration := rate }, Result.ok)

/-- SET_POS (R147). -/
def setPosCmd (dev : Byte) (pos : Word) (s : State) : State × Result :=
  withHandle dev s fun i => (s.modDevice i fun d => { d with position := pos }, Result.ok)

/-- A rate the speed setters refuse: 0, or one whose delay is 2^30 or more (R148). -/
def Cfg.badSpeed (c : Cfg) (rate : Word) : Bool :=
  rate == 0#32 || decide (delayLimit ≤ c.rateDelay rate)

/-- SET_MINSPD (R148). -/
def setMinspdCmd (dev : Byte) (rate : Word) (s : State) : State × Result :=
  withHandle dev s fun i =>
    if Cfg.badSpeed s.cfg rate then (s, Result.fail .delayOutOfRange)
    else (s.modDevice i fun d => { d with minSpeed := some rate }, Result.ok)

/-- SET_MAXSPD (R149). -/
def setMaxspdCmd (dev : Byte) (rate : Word) (s : State) : State × Result :=
  withHandle dev s fun i =>
    if Cfg.badSpeed s.cfg rate then (s, Result.fail .delayOutOfRange)
    else (s.modDevice i fun d => { d with maxSpeed := some rate }, Result.ok)

/-- SPD2DLY (R153). -/
def spd2dlyCmd (rate : Word) (s : State) : State × Result :=
  if rate = 0#32 then (s, Result.fail .delayOutOfRange)
  else (s, Result.okValue (wordOf (s.cfg.rateDelay rate)))

/-- DLY2SPD (R154): quotient and remainder of `10·MAXRATE / (delay + 10)`. -/
def dly2spdCmd (delay : Word) (s : State) : State × Result :=
  if delayLimit ≤ delay.toNat then (s, Result.fail .delayOutOfRange)
  else
    let k := 10 * s.cfg.maxRate
    (s, Result.ok2 (wordOf (k / (delay.toNat + 10))) (wordOf (k % (delay.toNat + 10))))

/-- GET (R155, 30_encoding.md R104). -/
def getCmd (dev field : Byte) (s : State) : State × Result :=
  if 0x80 ≤ field.toNat then
    match s.globalField field with
    | some w => if dev = 0#8 then (s, Result.okValue w) else (s, Result.fail .badArgument)
    | none => (s, Result.fail .badArgument)
  else
    withHandle dev s fun i =>
      match (s.device i).field field with
      | some r => (s, r)
      | none => (s, Result.fail .badArgument)

/-- SET_DIR in thread context. -/
def execSetDir (dev : Byte) (dir : Bool) (s : State) : Host.Outcome State Fault Refusal :=
  simpleCommand (setDirCmd dev dir s)

/-- SET_EN in thread context. -/
def execSetEn (dev : Byte) (en : Bool) (s : State) : Host.Outcome State Fault Refusal :=
  simpleCommand (setEnCmd dev en s)

/-- SET_DELAY in thread context. -/
def execSetDelay (dev : Byte) (delay : Word) (s : State) : Host.Outcome State Fault Refusal :=
  simpleCommand (setDelayCmd dev delay s)

/-- SET_ACCEL in thread context. -/
def execSetAccel (dev : Byte) (rate : Word) (s : State) : Host.Outcome State Fault Refusal :=
  simpleCommand (setAccelCmd dev rate s)

/-- SET_POS in thread context. -/
def execSetPos (dev : Byte) (pos : Word) (s : State) : Host.Outcome State Fault Refusal :=
  simpleCommand (setPosCmd dev pos s)

/-- SET_MINSPD in thread context. -/
def execSetMinspd (dev : Byte) (rate : Word) (s : State) : Host.Outcome State Fault Refusal :=
  simpleCommand (setMinspdCmd dev rate s)

/-- SET_MAXSPD in thread context. -/
def execSetMaxspd (dev : Byte) (rate : Word) (s : State) : Host.Outcome State Fault Refusal :=
  simpleCommand (setMaxspdCmd dev rate s)

/-- SPD2DLY in thread context. -/
def execSpd2dly (rate : Word) (s : State) : Host.Outcome State Fault Refusal :=
  simpleCommand (spd2dlyCmd rate s)

/-- DLY2SPD in thread context. -/
def execDly2spd (delay : Word) (s : State) : Host.Outcome State Fault Refusal :=
  simpleCommand (dly2spdCmd delay s)

/-- GET in thread context. -/
def execGet (dev field : Byte) (s : State) : Host.Outcome State Fault Refusal :=
  simpleCommand (getCmd dev field s)

end Sys2Proof.Machine
end

