-- ==== Sys2Proof/Machine/RampStack.lean ====
section
/-! DEFINITION. The ramp stack's commands: STK_PUSH, STK_POP (42_ramp_stack.md R174, R175). -/

namespace Sys2Proof.Machine

/-- The signal `Empty` where 32 bits carry it (R172). -/
def emptySignal : Word := 0xFFFFFFFF#32

/-- STK_PUSH (R174). -/
def stkPushCmd (dev : Byte) (value : Word) (s : State) : State × Result :=
  withHandle dev s fun i =>
    if delayLimit ≤ value.toNat then (s, Result.fail .delayOutOfRange)
    else (s.push i value, Result.ok)

/-- STK_POP (R175): the pop of an empty stack is no error. -/
def stkPopCmd (dev : Byte) (s : State) : State × Result :=
  withHandle dev s fun i =>
    match s.pop i with
    | (some v, s') => (s', Result.okValue v)
    | (none, s') => (s', Result.ok2 emptySignal 1#32)

/-- STK_PUSH in thread context. -/
def execStkPush (dev : Byte) (value : Word) (s : State) : Host.Outcome State Fault Refusal :=
  simpleCommand (stkPushCmd dev value s)

/-- STK_POP in thread context. -/
def execStkPop (dev : Byte) (s : State) : Host.Outcome State Fault Refusal :=
  simpleCommand (stkPopCmd dev s)

end Sys2Proof.Machine
end

