-- ==== Sys2Proof/Machine/Registry.lean ====
section
/-! DEFINITION. Device registry and resource allocator: ALLOC, CONFIG2, CONFIG4 (40_registry.md R120 to R128). -/

namespace Sys2Proof.Machine

/-- "finds the first unused slot" (R121). -/
def State.firstUnused (s : State) : Option Nat :=
  (List.range s.cfg.nDev).find? fun i => !(s.device i).inUse

/-- `pick_pg(F)`: the least free channel of the primary bank, else of the secondary (R122). -/
def pickPg (pgpb : Nat) (free : List Nat) : Option Nat :=
  match (free.filter fun p => decide (p < pgpb)).min? with
  | some p => some p
  | none => (free.filter fun p => decide (pgpb ≤ p)).min?

/-- `pick_cc(F)`: the least free completion channel (R122). -/
def pickCc (free : List Nat) : Option Nat := free.min?

/-- The values ALLOC gives the slot it claims (10_state.md R53); the three fields R53 leaves unspecified are free
values (log 4). -/
def Device.allocated (cfg : Cfg) (p c free : Nat) : Device :=
  { Device.reset with
    inUse := true
    pgChan := p
    ccChan := c
    configured := false
    variant := Config.freeVariant free
    basePin := Config.freePin free
    clkdiv := Config.freeDivisor free
    enabled := false
    direction := cfg.dirPol
    delay := wordOf cfg.minDelay
    command := encodeControl (wordOf cfg.minDelay) cfg.dirPol false
    position := 0#32
    running := false
    acceleration := 0#32
    movAccNum := 0#64
    movAccDen := 1#32
    accelDir := .coast
    coastingSlices := 0#32
    callback := .none
    minSpeed := none
    maxSpeed := none
    stack := [] }

/-- The claim of slot `i`, pulse-generator channel `p` and completion channel `c` (R121). -/
def State.claim (s : State) (i p c : Nat) : State :=
  { (((s.setDevice i (Device.allocated s.cfg p c s.freeIx)).setXfer c ⟨0#32, false, i⟩).setIrqEnable c).tick with
    pgFree := s.pgFree.filter fun q => q != p
    ccFree := s.ccFree.filter fun d => d != c
    chanMap := s.chanMap.set c (some i) }

/-- ALLOC (R121, R123, R124): all or nothing. -/
def allocCmd (s : State) : State × Result :=
  match s.firstUnused, pickPg s.cfg.pgpb s.pgFree, pickCc s.ccFree with
  | some i, some p, some c => (s.claim i p c, Result.okValue (wordOf i))
  | _, _, _ => (s, Result.exhausted)

/-- The program registration common to CONFIG2 and CONFIG4 (10_state.md R25). -/
def Device.configure (d : Device) (variant : Variant) (basePin : Byte) (clkdiv : Word) : Device :=
  { d with variant := variant, basePin := basePin, clkdiv := clkdiv, configured := true }

/-- CONFIG2 (R125, R127). -/
def config2Cmd (dev dirPin stepPin : Byte) (clkdiv : Word) (s : State) : State × Result :=
  withHandle dev s fun i =>
    if (s.device i).configured then (s, Result.fail .badArgument)
    else if dirPin = stepPin then (s, Result.fail .badArgument)
    else
      let choice := twoWireChoice dirPin stepPin
      (s.modDevice i fun d => d.configure choice.1 choice.2 clkdiv, Result.ok)

/-- CONFIG4 (R126, R127). -/
def config4Cmd (dev basePin : Byte) (clkdiv : Word) (s : State) : State × Result :=
  withHandle dev s fun i =>
    if (s.device i).configured then (s, Result.fail .badArgument)
    else (s.modDevice i fun d => d.configure .fourWire basePin clkdiv, Result.ok)

/-- ALLOC in thread context. -/
def execAlloc (s : State) : Host.Outcome State Fault Refusal := simpleCommand (allocCmd s)

/-- CONFIG2 in thread context. -/
def execConfig2 (dev dirPin stepPin : Byte) (clkdiv : Word) (s : State) : Host.Outcome State Fault Refusal :=
  simpleCommand (config2Cmd dev dirPin stepPin clkdiv s)

/-- CONFIG4 in thread context. -/
def execConfig4 (dev basePin : Byte) (clkdiv : Word) (s : State) : Host.Outcome State Fault Refusal :=
  simpleCommand (config4Cmd dev basePin clkdiv s)

end Sys2Proof.Machine
end

