-- ==== Sys2Proof/Machine/StepEngine.lean ====
section
/-! DEFINITION. The async step engine and the pulse-generator contract: MOVE_ASYNC, MOVE_BLOCK, WAIT_IDLE, the
events BEAT and PULSE (43_step_engine.md R185 to R208). An event's step is `none` where it is not enabled. -/

namespace Sys2Proof.Machine

/-! ## MOVE_ASYNC -/

/-- MOVE_ASYNC with its callback (R186 to R188). -/
def moveAsyncCmd (dev : Byte) (steps : Word) (cb : Callback) (s : State) : State × Result :=
  withHandle dev s fun i =>
    match s.startBurst i steps.toNat cb with
    | .ok s' => (s', Result.ok)
    | .error e => (s, Result.fail e)

/-- MOVE_ASYNC with callback NONE, in thread context. -/
def execMoveAsyncNone (dev : Byte) (steps : Word) (s : State) : Host.Outcome State Fault Refusal :=
  simpleCommand (moveAsyncCmd dev steps .none s)

/-- MOVE_ASYNC with callback RAMP, in thread context. -/
def execMoveAsyncRamp (dev : Byte) (steps : Word) (s : State) : Host.Outcome State Fault Refusal :=
  simpleCommand (moveAsyncCmd dev steps .ramp s)

/-- MOVE_ASYNC with callback USER(tag), in thread context. -/
def execMoveAsyncUser (dev tag : Byte) (steps : Word) (s : State) : Host.Outcome State Fault Refusal :=
  simpleCommand (moveAsyncCmd dev steps (.user tag) s)

/-! ## The burst engine -/

/-- BEAT of burst engine c (R190): enabled when the channel is armed and the destination queue is not full. -/
def beatStep (c : Nat) (s : State) : Option State :=
  let x := s.xferOf c
  if x.active && !s.queueFull (s.device x.slot).pgChan then
    let s1 := s.writePGQ x.slot (s.readCW x.slot)
    let left := x.count - 1#32
    if left = 0#32 then some ((s1.setXfer c ⟨left, false, x.slot⟩).setIrqFlag c)
    else some (s1.setXfer c ⟨left, true, x.slot⟩)
  else none

/-! ## The pulse generator -/

/-- PULSE of channel p (R206): the head word is consumed and logged. -/
def pulseStep (p : Nat) (s : State) : Option State :=
  match s.queue p with
  | [] => none
  | w :: rest => some { s.setQueue p rest with pulseLog := s.pulseLog.set p (s.log p ++ [w]) }

/-! ## MOVE_BLOCK -/

/-- MOVE_BLOCK's prologue (R192). -/
def moveBlockPrologue (dev : Byte) (dir : Bool) (steps startDelay delayStep : Word) (s : State) : Prologue :=
  let i := dev.toNat
  if !s.validHandle dev then .ends (Result.fail .invalidDevice)
  else if !(s.device i).configured then .ends (Result.fail .notConfigured)
  else if (s.device i).running then .ends (Result.fail .alreadyRunning)
  else if delayLimit ≤ startDelay.toNat then .ends (Result.fail .delayOutOfRange)
  else
    .starts (s.modDevice i fun d => { d with running := true })
      (.block i steps.toNat startDelay.toNat dir delayStep.toInt)

/-- MOVE_BLOCK in thread context: accepted, it runs on as the sequencer state `Block`. -/
def execMoveBlock (dev : Byte) (dir : Bool) (steps startDelay delayStep : Word) (s : State) :
    Host.Outcome State Fault Refusal :=
  macroCommand s (moveBlockPrologue dev dir steps startDelay delayStep s)

/-- The step of `Block(i, k, v)`: end of the words (R195), ramp out of range (R194), or one push (R193). -/
def blockStep (i k : Nat) (v : Int) (dir : Bool) (delayStep : Int) (s : State) : Option State :=
  match k with
  | 0 => some (s.setSeq (.blockDrain i Result.ok))
  | k' + 1 =>
    if v < 0 ∨ (delayLimit : Int) ≤ v then
      some ((s.raiseFault fBlockRange).setSeq (.blockDrain i (Result.fail .delayOutOfRange)))
    else if s.queueFull (s.device i).pgChan then none
    else
      some ((s.writePGQ i (encodeControl (wordOf v.toNat) (s.cfg.wireDir dir) (s.device i).enabled)).setSeq
        (.block i k' (v + delayStep) dir delayStep))

/-- The step of `BlockDrain(i)`: enabled when the queue is empty; clears `running` and returns (R195). -/
def blockDrainStep (i : Nat) (res : Result) (s : State) : Option State :=
  if (s.queue (s.device i).pgChan).isEmpty then
    some ((s.modDevice i fun d => { d with running := false }).endMacro res)
  else none

/-! ## WAIT_IDLE -/

/-- WAIT_IDLE's prologue (R196). -/
def waitIdlePrologue (dev : Byte) (s : State) : Prologue :=
  if s.validHandle dev then .starts s (.waitIdle dev.toNat) else .ends (Result.fail .invalidDevice)

/-- WAIT_IDLE in thread context. -/
def execWaitIdle (dev : Byte) (s : State) : Host.Outcome State Fault Refusal :=
  macroCommand s (waitIdlePrologue dev s)

/-- The step of `WaitIdle(i)`: enabled exactly when the device is idle (R196, R197). -/
def waitIdleStep (i : Nat) (s : State) : Option State :=
  if (s.device i).running then none else some (s.endMacro Result.ok)

end Sys2Proof.Machine
end

