-- ==== Sys2Proof/Machine/Completion.lean ====
section
/-! DEFINITION. The completion dispatcher and handler context (60_exceptions.md R275 to R285). -/

namespace Sys2Proof.Machine

/-- A command in handler context (R279, R285): a simple command runs as it does in thread context, a macro command
fails with `IllegalCommand` and changes nothing (30_encoding.md R95). The command port is not touched. -/
def handlerCommand (i : Instr) (s : State) : State × Result :=
  match i with
  | .alloc => allocCmd s
  | .config2 dev dirPin stepPin clkdiv => config2Cmd dev dirPin stepPin clkdiv s
  | .config4 dev basePin clkdiv => config4Cmd dev basePin clkdiv s
  | .setDir dev dir => setDirCmd dev dir s
  | .setEn dev en => setEnCmd dev en s
  | .setDelay dev delay => setDelayCmd dev delay s
  | .setAccel dev rate => setAccelCmd dev rate s
  | .setPos dev pos => setPosCmd dev pos s
  | .setMinspd dev rate => setMinspdCmd dev rate s
  | .setMaxspd dev rate => setMaxspdCmd dev rate s
  | .spd2dly rate => spd2dlyCmd rate s
  | .dly2spd delay => dly2spdCmd delay s
  | .get dev field => getCmd dev field s
  | .stkPush dev value => stkPushCmd dev value s
  | .stkPop dev => stkPopCmd dev s
  | .moveAsyncNone dev steps => moveAsyncCmd dev steps .none s
  | .moveAsyncRamp dev steps => moveAsyncCmd dev steps .ramp s
  | .moveAsyncUser dev tag steps => moveAsyncCmd dev steps (.user tag) s
  | .moveBlock _ _ _ _ _ => (s, Result.fail .illegalCommand)
  | .waitIdle _ => (s, Result.fail .illegalCommand)
  | .moveTo _ _ => (s, Result.fail .illegalCommand)
  | .moveMulti _ _ => (s, Result.fail .illegalCommand)

/-- One command of a handler, its result handed to the oracle (R279). -/
def handlerStep (s : State) (i : Instr) : State :=
  let out := handlerCommand i s
  { out.1 with handlerLog := out.1.handlerLog ++ [.result out.2] }

/-- A USER callback: the oracle's next answer, a finite list of commands, run one after another inside the dispatch
(R279). No answer left in this list is the handler that does nothing; a run may put answers into it before every step,
so that an oracle need never run out of them (`Safety.Outside`, log 6). -/
def runHandler (tag : Byte) (i : Nat) (s : State) : State :=
  let called := { s with handlerLog := s.handlerLog ++ [.call tag i], handlers := s.handlers.tail }
  (s.handlers.headD []).foldl handlerStep called

/-- The callback of device `i`, invoked with the device identity (R275). -/
def runCallback (i : Nat) (s : State) : State :=
  match (s.device i).callback with
  | .none => s
  | .ramp => accelCallback i s
  | .user tag => runHandler tag i s

/-- One completed channel: resolved through the map, `running` cleared, then the callback (R275, R277). -/
def completeChannel (s : State) (c : Nat) : State :=
  match s.slotOf c with
  | none => s.raiseFault fUnmapped
  | some i => runCallback i (s.completeDevice i)

/-- DISPATCH (R275): enabled exactly when the line is asserted (R274). -/
def dispatchStep (s : State) : Option State :=
  if s.irqLine then
    some ((channelsIn s.takeFlags.1 s.cfg.nCC).foldl completeChannel s.takeFlags.2)
  else none

end Sys2Proof.Machine
end

