-- ==== Sys2Proof/Machine/MultiAxis.lean ====
section
/-! DEFINITION. The multi-axis proportional ramp coordinator: MOVE_MULTI (45_multi_axis.md R240 to R252). -/

namespace Sys2Proof.Machine

/-- A named axis: its slot and its target. -/
abbrev AxisTarget := Nat × Word

/-- The operands of MOVE_MULTI as slots and targets. -/
def axisTargets (axes : List (Byte × Word)) : List AxisTarget := axes.map fun a => (a.1.toNat, a.2)

/-- An axis already at its target (R242). -/
def State.atTarget (s : State) (a : AxisTarget) : Bool := a.2 == (s.device a.1).position

/-- An axis that is configured and has both speeds set (R241). -/
def State.axisReady (s : State) (a : AxisTarget) : Bool :=
  (s.device a.1).configured && (s.device a.1).minSpeed.isSome && (s.device a.1).maxSpeed.isSome

/-- The distance of an axis (R244). -/
def State.axisDist (s : State) (a : AxisTarget) : Nat := distance a.2 (s.device a.1).position

/-- `most_steps`, the largest distance (R244). -/
def State.mostSteps (s : State) (axes : List AxisTarget) : Nat :=
  axes.foldl (fun m a => max m (s.axisDist a)) 0

/-- `acceleration_steps`, forced to 0 if any axis has zero configured acceleration (R244). -/
def State.accelerationSteps (s : State) (axes : List AxisTarget) : Nat :=
  if axes.any (fun a => (s.device a.1).acceleration == 0#32) then 0
  else s.mostSteps axes / s.cfg.numSteps

/-- The per-slice step count of an axis (R245). -/
def perSlice (accelerationSteps dist : Nat) : Nat :=
  if accelerationSteps = 0 then 0 else dist / accelerationSteps

/-- The context, from the distances before the prologue's writes (R243 to R245). -/
def State.multiCtx (s : State) (sequential : Bool) (axes : List AxisTarget) : MultiCtx :=
  let accelerationSteps := s.accelerationSteps axes
  { axes := axes.map fun a =>
      let dist := s.axisDist a
      ⟨a.1, dist, perSlice accelerationSteps dist, (dist : Int)⟩
    mostSteps := s.mostSteps axes
    accelerationSteps := accelerationSteps
    half := accelerationSteps / 2
    sequential := sequential }

/-- The prologue's writes on one axis (R244, R246): position, direction, scaled acceleration, clean start. -/
def State.beginAxis (mostSteps : Nat) (s : State) (a : AxisTarget) : State :=
  let i := a.1
  let dist := s.axisDist a
  let dir := movesUp a.2 (s.device i).position
  let s1 := s.modDevice i fun d =>
    { d with
      position := a.2
      direction := s.cfg.wireDir dir
      movAccNum := BitVec.ofNat 64 (d.acceleration.toNat * dist)
      movAccDen := wordOf mostSteps
      accelDir := .up
      coastingSlices := 0#32 }.recompute
  let s2 := s1.clearStack i
  if s.cfg.multiResetsDelay then
    match (s.device i).minSpeed with
    | some minSpeed => s2.setDelay i (s.cfg.rateDelay minSpeed)
    | none => s2
  else s2

/-- The prologue's writes on every axis (R244 to R246). -/
def State.beginMulti (s : State) (axes : List AxisTarget) : State :=
  axes.foldl (State.beginAxis (s.mostSteps axes)) s

/-- MOVE_MULTI's prologue: the checks of R241 in their order, R242, and the writes. -/
def moveMultiPrologue (sequential : Bool) (axes : List (Byte × Word)) (s : State) : Prologue :=
  let targets := axisTargets axes
  if s.cfg.nDev < axes.length then .ends (Result.fail .badArgument)
  else if !axes.all (fun a => s.validHandle a.1) then .ends (Result.fail .invalidDevice)
  else if !decide (targets.map (·.1)).Nodup then .ends (Result.fail .badArgument)
  else if targets.all s.atTarget then .ends Result.ok
  else if !targets.all s.axisReady then .ends (Result.fail .notConfigured)
  else if targets.any (fun a => (s.device a.1).running) then .ends (Result.fail .alreadyRunning)
  else
    let ctx := s.multiCtx sequential targets
    .starts (s.beginMulti targets) (.multi ctx .accel ctx.half 0 [])

/-- MOVE_MULTI in thread context: accepted, it runs on as the sequencer state `Multi`. -/
def execMoveMulti (sequential : Bool) (axes : List (Byte × Word)) (s : State) :
    Host.Outcome State Fault Refusal :=
  macroCommand s (moveMultiPrologue sequential axes s)

/-! ## The sequencer states Multi and MultiWait (R247 to R251) -/

/-- The context with axis j's `remaining` changed by `delta`. -/
def MultiCtx.credit (ctx : MultiCtx) (j : Nat) (delta : Int) : MultiCtx :=
  { ctx with axes := ctx.axes.modify j fun a => { a with remaining := a.remaining + delta } }

/-- Where the sequencer goes after the last wait of a slice: the next slice, or on in the remainder. -/
def afterSlice (ctx : MultiCtx) (phase : Phase) (k : Nat) : Seq :=
  match phase with
  | .accel | .decel => .multi ctx phase (k - 1) 0 []
  | .remainder => .multi ctx .remainder 0 ctx.axes.length []

/-- Where the sequencer goes once axis j has been handled, `sent` telling whether a burst is to be waited for
(R247, R248): sequential mode waits for that burst at once, concurrent mode after the last axis. -/
def nextAxis (ctx : MultiCtx) (phase : Phase) (k j : Nat) (set : List Nat) (slot : Nat) (sent : Bool) : Seq :=
  if ctx.sequential then
    if sent then .multiWait ctx phase k (j + 1) [slot]
    else if j + 1 < ctx.axes.length then .multi ctx phase k (j + 1) []
    else afterSlice ctx phase k
  else
    let set' := if sent then set ++ [slot] else set
    if j + 1 < ctx.axes.length then .multi ctx phase k (j + 1) set'
    else .multiWait ctx phase k (j + 1) set'

/-- Axis j of a ramp slice (R247): dispatched when its count exceeds the threshold, else credited. -/
def rampAxis (ctx : MultiCtx) (phase : Phase) (k j : Nat) (set : List Nat) (a : Axis) (s : State) : State :=
  if s.cfg.minSlice < a.per then
    (s.seqDispatch a.slot a.per .ramp).setSeq
      (nextAxis (ctx.credit j (-(2 * (a.per : Int)))) phase k j set a.slot true)
  else s.setSeq (nextAxis (ctx.credit j (2 * (a.per : Int))) phase k j set a.slot false)

/-- Axis j of the remainder (R249). -/
def remainderAxis (ctx : MultiCtx) (k j : Nat) (set : List Nat) (a : Axis) (s : State) : State :=
  if a.remaining ≤ 0 then s.setSeq (nextAxis ctx .remainder k j set a.slot false)
  else if (2 ^ 32 - 1 : Int) < a.remaining then
    (s.raiseFault fSeqDispatch).setSeq (nextAxis ctx .remainder k j set a.slot false)
  else
    (s.seqDispatch a.slot a.remaining.toNat .none).setSeq (nextAxis ctx .remainder k j set a.slot true)

/-- The turn to deceleration, one atomic step for all axes (R250). -/
def State.turnAxes (s : State) (axes : List Axis) : State :=
  axes.foldl (fun t a => t.modDevice a.slot fun d => { d with accelDir := .down }) s

/-- The step of `Multi(ctx, phase, k, j)`. It is always enabled. -/
def multiStep (ctx : MultiCtx) (phase : Phase) (k j : Nat) (set : List Nat) (s : State) : State :=
  match phase, ctx.axes[j]? with
  | .remainder, some a => remainderAxis ctx k j set a s
  | .remainder, none => (s.turnAxes ctx.axes).setSeq (.multi ctx .decel ctx.half 0 [])
  | .accel, some a =>
    if k = 0 then s.setSeq (.multi ctx .remainder 0 0 []) else rampAxis ctx .accel k j set a s
  | .accel, none => s.setSeq (.multi ctx .remainder 0 0 [])
  | .decel, some a => if k = 0 then s.endMacro Result.ok else rampAxis ctx .decel k j set a s
  | .decel, none => s.endMacro Result.ok

/-- The step of `MultiWait(ctx, phase, k, j, set)`: enabled exactly when every device of `set` is idle (R247, R249). -/
def multiWaitStep (ctx : MultiCtx) (phase : Phase) (k j : Nat) (set : List Nat) (s : State) : Option State :=
  if set.any (fun i => (s.device i).running) then none
  else if j < ctx.axes.length then some (s.setSeq (.multi ctx phase k j []))
  else some (s.setSeq (afterSlice ctx phase k))

end Sys2Proof.Machine
end

