-- ==== Sys2Proof/Machine/Sequencer.lean ====
section
/-! DEFINITION. One step of the macro sequencer, by its control state (10_state.md R45; 00_scope.md R13). -/

namespace Sys2Proof.Machine

/-- The sequencer's step, `none` where it is idle or its wait is not satisfied (43_step_engine.md R197). -/
def sequencerStep (s : State) : Option State :=
  match s.seq with
  | .idle => none
  | .block i k v dir delayStep => blockStep i k v dir delayStep s
  | .blockDrain i res => blockDrainStep i res s
  | .waitIdle i => waitIdleStep i s
  | .to i phase k rem half => some (toStep i phase k rem half s)
  | .toWait i phase k rem half => toWaitStep i phase k rem half s
  | .multi ctx phase k j set => some (multiStep ctx phase k j set s)
  | .multiWait ctx phase k j set => multiWaitStep ctx phase k j set s

end Sys2Proof.Machine
end

