-- ==== Sys2Proof/WellFormed.lean ====
section
/-! DEFINITION. Which terms of `Instr` the descriptor encoding can carry (30_encoding.md R94, R96). -/

namespace Sys2Proof

/-- The types bound every operand but one: MOVE_MULTI's axis count `n` is `aux[6:0]`, "0 to 127" (R96). -/
def Instr.wellFormed : Instr → Bool
  | .moveMulti _ axes => decide (axes.length ≤ 127)
  | .alloc | .config2 _ _ _ _ | .config4 _ _ _ | .setDir _ _ | .setEn _ _ | .setDelay _ _
  | .setAccel _ _ | .setPos _ _ | .setMinspd _ _ | .setMaxspd _ _ | .spd2dly _ | .dly2spd _
  | .get _ _ | .stkPush _ _ | .stkPop _ | .moveAsyncNone _ _ | .moveAsyncRamp _ _
  | .moveAsyncUser _ _ _ | .moveBlock _ _ _ _ _ | .waitIdle _ | .moveTo _ _ => true

end Sys2Proof
end

