-- ==== Sys2Proof/Decode.lean ====
section
/-! DEFINITION. The command descriptor: decoder, total on any words and any bytes, and encoder
(30_encoding.md R93 to R102; 20_memory.md R76). -/

namespace Sys2Proof

/-! ## Header fields (R93) -/

/-- `op`, header bits 7:0. -/
def opField (h : Word) : Byte := h.extractLsb' 0 8
/-- `dev`, header bits 15:8. -/
def devField (h : Word) : Byte := h.extractLsb' 8 8
/-- `aux`, header bits 23:16. -/
def auxField (h : Word) : Byte := h.extractLsb' 16 8
/-- `tag`, header bits 31:24. -/
def tagField (h : Word) : Byte := h.extractLsb' 24 8

/-- A word from its four bytes, bits 7:0 first. -/
def wordOfFields (b0 b1 b2 b3 : Byte) : Word :=
  b0.zeroExtend 32 ||| b1.zeroExtend 32 <<< 8 ||| b2.zeroExtend 32 <<< 16 ||| b3.zeroExtend 32 <<< 24

/-- A header from its four fields, `op | dev<<8 | aux<<16 | tag<<24` (R93). -/
def headerOf (op dev aux tag : Byte) : Word := wordOfFields op dev aux tag

/-- A one-bit operand in `aux[0]` (R96). -/
def auxOfBool (b : Bool) : Byte := if b then 1#8 else 0#8

/-! ## Rows of the opcode map -/

/-- The rows of the opcode table, one name each. -/
inductive Op where
  | alloc | config2 | config4 | setDir | setEn | setDelay | setAccel | setPos | setMinspd | setMaxspd
  | spd2dly | dly2spd | get | stkPush | stkPop | moveAsyncNone | moveAsyncRamp | moveAsyncUser
  | moveBlock | waitIdle | moveTo | moveMulti
  deriving DecidableEq, Repr

/-- A row chosen when its reserved header bits are zero (R93, R100). -/
def rowIf (reservedZero : Bool) (op : Op) : Option Op := if reservedZero then some op else none

/-- Which row a header names, `none` for a reserved opcode or a reserved header bit set (R94, R97, R100). -/
def opOf (h : Word) : Option Op :=
  let op := opField h
  let devZero := devField h == 0#8
  let auxZero := auxField h == 0#8
  let auxBit := auxField h &&& 0xFE#8 == 0#8
  let tagZero := tagField h == 0#8
  if op = 0x01#8 then rowIf (devZero && auxZero && tagZero) .alloc
  else if op = 0x02#8 then rowIf (auxZero && tagZero) .config2
  else if op = 0x03#8 then rowIf (auxZero && tagZero) .config4
  else if op = 0x10#8 then rowIf (auxBit && tagZero) .setDir
  else if op = 0x11#8 then rowIf (auxBit && tagZero) .setEn
  else if op = 0x12#8 then rowIf (auxZero && tagZero) .setDelay
  else if op = 0x13#8 then rowIf (auxZero && tagZero) .setAccel
  else if op = 0x14#8 then rowIf (auxZero && tagZero) .setPos
  else if op = 0x15#8 then rowIf (auxZero && tagZero) .setMinspd
  else if op = 0x16#8 then rowIf (auxZero && tagZero) .setMaxspd
  else if op = 0x18#8 then rowIf (devZero && auxZero && tagZero) .spd2dly
  else if op = 0x19#8 then rowIf (devZero && auxZero && tagZero) .dly2spd
  else if op = 0x1A#8 then rowIf tagZero .get
  else if op = 0x20#8 then rowIf (auxZero && tagZero) .stkPush
  else if op = 0x21#8 then rowIf (auxZero && tagZero) .stkPop
  else if op = 0x30#8 then
    if auxField h = 0#8 then rowIf tagZero .moveAsyncNone
    else if auxField h = 1#8 then rowIf tagZero .moveAsyncRamp
    else rowIf (auxField h == 2#8) .moveAsyncUser
  else if op = 0x31#8 then rowIf (auxBit && tagZero) .moveBlock
  else if op = 0x32#8 then rowIf (auxZero && tagZero) .waitIdle
  else if op = 0x40#8 then rowIf (auxZero && tagZero) .moveTo
  else if op = 0x41#8 then rowIf (devZero && tagZero) .moveMulti
  else none

/-- A row of spec/opcode_table.json: a header `h` is the row's when `h & mask = match`. -/
structure OpcodeRow where
  op : Op
  matchBits : Word
  maskBits : Word
  deriving DecidableEq, Repr

/-- spec/opcode_table.json, match and mask of every row, in its order. -/
def opcodeRows : List OpcodeRow :=
  [⟨.alloc, 0x00000001#32, 0xFFFFFFFF#32⟩, ⟨.config2, 0x00000002#32, 0xFFFF00FF#32⟩,
   ⟨.config4, 0x00000003#32, 0xFFFF00FF#32⟩, ⟨.setDir, 0x00000010#32, 0xFFFE00FF#32⟩,
   ⟨.setEn, 0x00000011#32, 0xFFFE00FF#32⟩, ⟨.setDelay, 0x00000012#32, 0xFFFF00FF#32⟩,
   ⟨.setAccel, 0x00000013#32, 0xFFFF00FF#32⟩, ⟨.setPos, 0x00000014#32, 0xFFFF00FF#32⟩] ++
  [⟨.setMinspd, 0x00000015#32, 0xFFFF00FF#32⟩, ⟨.setMaxspd, 0x00000016#32, 0xFFFF00FF#32⟩,
   ⟨.spd2dly, 0x00000018#32, 0xFFFFFFFF#32⟩, ⟨.dly2spd, 0x00000019#32, 0xFFFFFFFF#32⟩,
   ⟨.get, 0x0000001A#32, 0xFF0000FF#32⟩, ⟨.stkPush, 0x00000020#32, 0xFFFF00FF#32⟩,
   ⟨.stkPop, 0x00000021#32, 0xFFFF00FF#32⟩] ++
  [⟨.moveAsyncNone, 0x00000030#32, 0xFFFF00FF#32⟩, ⟨.moveAsyncRamp, 0x00010030#32, 0xFFFF00FF#32⟩,
   ⟨.moveAsyncUser, 0x00020030#32, 0x00FF00FF#32⟩, ⟨.moveBlock, 0x00000031#32, 0xFFFE00FF#32⟩,
   ⟨.waitIdle, 0x00000032#32, 0xFFFF00FF#32⟩, ⟨.moveTo, 0x00000040#32, 0xFFFF00FF#32⟩,
   ⟨.moveMulti, 0x00000041#32, 0xFF00FFFF#32⟩]

/-- The number of argument words of a row, told from the header alone (R94, R99). -/
def argCount (op : Op) (h : Word) : Nat :=
  match op with
  | .alloc | .setDir | .setEn | .get | .stkPop | .waitIdle => 0
  | .setDelay | .setAccel | .setPos | .setMinspd | .setMaxspd | .spd2dly | .dly2spd | .stkPush
  | .moveAsyncNone | .moveAsyncRamp | .moveAsyncUser | .moveTo => 1
  | .config2 | .config4 => 2
  | .moveBlock => 3
  | .moveMulti => 2 * (auxField h &&& 0x7F#8).toNat

/-- The length of a descriptor in words; an illegal header is one word long (R99, R100). -/
def descLen (h : Word) : Nat :=
  match opOf h with
  | none => 1
  | some op => 1 + argCount op h

/-! ## Operand assembly (R96) -/

/-- MOVE_MULTI's axes; `none` when `w(1+2k)[31:8]` is not zero for some k (R94, R100). -/
def axesOf : List Word → Option (List (Byte × Word))
  | [] => some []
  | [_] => none
  | d :: t :: rest =>
    if d.extractLsb' 8 24 = 0#24 then (axesOf rest).map ((d.extractLsb' 0 8, t) :: ·) else none

/-- The instruction of a row, its header and its argument words; `none` when a reserved argument bit is set. -/
def assemble (op : Op) (h : Word) (args : List Word) : Option Instr :=
  let dev := devField h
  let flag := (auxField h).getLsbD 0
  match op, args with
  | .alloc, [] => some .alloc
  | .config2, [w1, w2] =>
    if w1.extractLsb' 16 16 = 0#16 then some (.config2 dev (w1.extractLsb' 0 8) (w1.extractLsb' 8 8) w2)
    else none
  | .config4, [w1, w2] =>
    if w1.extractLsb' 8 24 = 0#24 then some (.config4 dev (w1.extractLsb' 0 8) w2) else none
  | .setDir, [] => some (.setDir dev flag)
  | .setEn, [] => some (.setEn dev flag)
  | .setDelay, [w1] => some (.setDelay dev w1)
  | .setAccel, [w1] => some (.setAccel dev w1)
  | .setPos, [w1] => some (.setPos dev w1)
  | .setMinspd, [w1] => some (.setMinspd dev w1)
  | .setMaxspd, [w1] => some (.setMaxspd dev w1)
  | .spd2dly, [w1] => some (.spd2dly w1)
  | .dly2spd, [w1] => some (.dly2spd w1)
  | .get, [] => some (.get dev (auxField h))
  | .stkPush, [w1] => some (.stkPush dev w1)
  | .stkPop, [] => some (.stkPop dev)
  | .moveAsyncNone, [w1] => some (.moveAsyncNone dev w1)
  | .moveAsyncRamp, [w1] => some (.moveAsyncRamp dev w1)
  | .moveAsyncUser, [w1] => some (.moveAsyncUser dev (tagField h) w1)
  | .moveBlock, [w1, w2, w3] => some (.moveBlock dev flag w1 w2 w3)
  | .waitIdle, [] => some (.waitIdle dev)
  | .moveTo, [w1] => some (.moveTo dev w1)
  | .moveMulti, ws => (axesOf ws).map (.moveMulti ((auxField h).getLsbD 7))
  | _, _ => none

/-- What a whole descriptor stands for: a command, or one of the two refusals of R100, by name. -/
inductive Decoded where
  | command (i : Instr)
  | illegalCommand
  | badArgument
  deriving DecidableEq, Repr

/-- Cuts the first descriptor off a sequence of words. `none`: its last word is not there yet (R99, R100). -/
def decode : List Word → Option (Decoded × List Word)
  | [] => none
  | h :: rest =>
    match opOf h with
    | none => some (.illegalCommand, rest)
    | some op =>
      if rest.length < argCount op h then none
      else
        match assemble op h (rest.take (argCount op h)) with
        | some i => some (.command i, rest.drop (argCount op h))
        | none => some (.badArgument, rest.drop (argCount op h))

/-- The words of a byte sequence, little-endian: the lowest address holds bits 7:0 (20_memory.md R76). A tail of
fewer than four bytes makes no word. -/
def wordsOfBytes : List Byte → List Word
  | b0 :: b1 :: b2 :: b3 :: rest => wordOfFields b0 b1 b2 b3 :: wordsOfBytes rest
  | _ => []

/-- The bytes of a word sequence, little-endian (20_memory.md R76). -/
def bytesOfWords (ws : List Word) : List Byte :=
  ws.flatMap fun w => [opField w, devField w, auxField w, tagField w]

/-- The decoder on bytes. -/
def decodeBytes (bs : List Byte) : Option (Decoded × List Word) := decode (wordsOfBytes bs)

/-! ## Encoder (R93, R94, R96, R97) -/

/-- The header word of a command. -/
def encodeHeader : Instr → Word
  | .alloc => headerOf 0x01#8 0#8 0#8 0#8
  | .config2 dev _ _ _ => headerOf 0x02#8 dev 0#8 0#8
  | .config4 dev _ _ => headerOf 0x03#8 dev 0#8 0#8
  | .setDir dev dir => headerOf 0x10#8 dev (auxOfBool dir) 0#8
  | .setEn dev en => headerOf 0x11#8 dev (auxOfBool en) 0#8
  | .setDelay dev _ => headerOf 0x12#8 dev 0#8 0#8
  | .setAccel dev _ => headerOf 0x13#8 dev 0#8 0#8
  | .setPos dev _ => headerOf 0x14#8 dev 0#8 0#8
  | .setMinspd dev _ => headerOf 0x15#8 dev 0#8 0#8
  | .setMaxspd dev _ => headerOf 0x16#8 dev 0#8 0#8
  | .spd2dly _ => headerOf 0x18#8 0#8 0#8 0#8
  | .dly2spd _ => headerOf 0x19#8 0#8 0#8 0#8
  | .get dev field => headerOf 0x1A#8 dev field 0#8
  | .stkPush dev _ => headerOf 0x20#8 dev 0#8 0#8
  | .stkPop dev => headerOf 0x21#8 dev 0#8 0#8
  | .moveAsyncNone dev _ => headerOf 0x30#8 dev 0#8 0#8
  | .moveAsyncRamp dev _ => headerOf 0x30#8 dev 1#8 0#8
  | .moveAsyncUser dev tag _ => headerOf 0x30#8 dev 2#8 tag
  | .moveBlock dev dir _ _ _ => headerOf 0x31#8 dev (auxOfBool dir) 0#8
  | .waitIdle dev => headerOf 0x32#8 dev 0#8 0#8
  | .moveTo dev _ => headerOf 0x40#8 dev 0#8 0#8
  | .moveMulti sequential axes =>
    headerOf 0x41#8 0#8 (BitVec.ofNat 8 axes.length ||| (if sequential then 0x80#8 else 0#8)) 0#8

/-- The argument words of a command. -/
def encodeArgs : Instr → List Word
  | .alloc | .setDir _ _ | .setEn _ _ | .get _ _ | .stkPop _ | .waitIdle _ => []
  | .config2 _ dirPin stepPin clkdiv => [wordOfFields dirPin stepPin 0#8 0#8, clkdiv]
  | .config4 _ basePin clkdiv => [wordOfFields basePin 0#8 0#8 0#8, clkdiv]
  | .setDelay _ w | .setAccel _ w | .setPos _ w | .setMinspd _ w | .setMaxspd _ w | .spd2dly w
  | .dly2spd w | .stkPush _ w | .moveAsyncNone _ w | .moveAsyncRamp _ w | .moveAsyncUser _ _ w
  | .moveTo _ w => [w]
  | .moveBlock _ _ steps startDelay delayStep => [steps, startDelay, delayStep]
  | .moveMulti _ axes => axes.flatMap fun a => [wordOfFields a.1 0#8 0#8 0#8, a.2]

/-- The descriptor of a command. -/
def encode (i : Instr) : List Word := encodeHeader i :: encodeArgs i

/-! ## Text form (R101, R102) -/

/-- The pseudo-instruction `POLL dev` repeats this command until its value is 0 (R102). -/
def pollCommand (dev : Byte) : Instr := .get dev 0x05#8

/-- A signed operand in decimal. -/
def textOfInt (w : Word) : String :=
  if w.msb then "-" ++ toString (2 ^ 32 - w.toNat) else toString w.toNat

/-- A bool operand. -/
def textOfBool (b : Bool) : String := if b then "1" else "0"

/-- The field names of GET, which are their names in text form (R104); any other identifier in decimal. -/
def textOfField (field : Byte) : String :=
  (["enabled", "direction", "delay", "command", "position", "running", "acceleration",
    "moving_acceleration numerator", "moving_acceleration denominator", "acceleration_direction",
    "coasting_slices", "callback", "stack length", "configured", "pg_chan", "cc_chan", "min_speed",
    "max_speed"][field.toNat]?).getD
    (if field = 0x80#8 then "irq_flags" else if field = 0x81#8 then "irq_enable"
     else if field = 0x82#8 then "fault" else toString field.toNat)

/-- Mnemonic and operands, as R101 writes a command: decimal integers, separated by commas. -/
def textOf (mnemonic : String) (operands : List String) : String :=
  match operands with
  | [] => mnemonic
  | _ :: _ => mnemonic ++ " " ++ ", ".intercalate operands

/-- The text form of a command (R101). -/
def Instr.text : Instr → String
  | .alloc => textOf "ALLOC" []
  | .config2 d a b c => textOf "CONFIG2" [toString d.toNat, toString a.toNat, toString b.toNat, toString c.toNat]
  | .config4 d b c => textOf "CONFIG4" [toString d.toNat, toString b.toNat, toString c.toNat]
  | .setDir d b => textOf "SET_DIR" [toString d.toNat, textOfBool b]
  | .setEn d b => textOf "SET_EN" [toString d.toNat, textOfBool b]
  | .setDelay d w => textOf "SET_DELAY" [toString d.toNat, toString w.toNat]
  | .setAccel d w => textOf "SET_ACCEL" [toString d.toNat, toString w.toNat]
  | .setPos d w => textOf "SET_POS" [toString d.toNat, textOfInt w]
  | .setMinspd d w => textOf "SET_MINSPD" [toString d.toNat, toString w.toNat]
  | .setMaxspd d w => textOf "SET_MAXSPD" [toString d.toNat, toString w.toNat]
  | .spd2dly w => textOf "SPD2DLY" [toString w.toNat]
  | .dly2spd w => textOf "DLY2SPD" [toString w.toNat]
  | .get d f => textOf "GET" [toString d.toNat, textOfField f]
  | .stkPush d w => textOf "STK_PUSH" [toString d.toNat, toString w.toNat]
  | .stkPop d => textOf "STK_POP" [toString d.toNat]
  | .moveAsyncNone d w => textOf "MOVE_ASYNC" [toString d.toNat, toString w.toNat, "NONE"]
  | .moveAsyncRamp d w => textOf "MOVE_ASYNC" [toString d.toNat, toString w.toNat, "RAMP"]
  | .moveAsyncUser d t w => textOf "MOVE_ASYNC" [toString d.toNat, toString w.toNat, "USER:" ++ toString t.toNat]
  | .moveBlock d b s v st =>
    textOf "MOVE_BLOCK" [toString d.toNat, toString s.toNat, textOfBool b, toString v.toNat, textOfInt st]
  | .waitIdle d => textOf "WAIT_IDLE" [toString d.toNat]
  | .moveTo d w => textOf "MOVE_TO" [toString d.toNat, textOfInt w]
  | .moveMulti q axes =>
    textOf "MOVE_MULTI" ((if q then "SEQ" else "PAR") ::
      axes.map fun a => "(" ++ toString a.1.toNat ++ ", " ++ textOfInt a.2 ++ ")")

/-! ## The host's two names -/

/-- The words of a descriptor given as one number, bit 0 the least significant bit of the first word; every bit
from `nbits` on is zero. The length is the header's. -/
def layoutWords (nbits w : Nat) : List Word :=
  let w' := w % 2 ^ nbits
  (List.range (descLen (wordOf w'))).map fun k => wordOf (w' >>> (32 * k))

/-- The instruction the decoder reads from a table word. -/
def decodeTableWord (nbits w : Nat) : Option Instr :=
  match decode (layoutWords nbits w) with
  | some (.command i, []) => some i
  | _ => none

end Sys2Proof
end

