-- ==== Sys2Proof/Machine/Dispatch.lean ====
section
/-! DEFINITION. A thread-context command from its acceptance (30_encoding.md R95): one arm per constructor. -/

namespace Sys2Proof.Machine

def exec (i : Instr) (s : State) : Host.Outcome State Fault Refusal :=
  match i with
  | .alloc => Sys2Proof.Machine.execAlloc s
  | .config2 dev dirPin stepPin clkdiv => Sys2Proof.Machine.execConfig2 dev dirPin stepPin clkdiv s
  | .config4 dev basePin clkdiv => Sys2Proof.Machine.execConfig4 dev basePin clkdiv s
  | .setDir dev dir => Sys2Proof.Machine.execSetDir dev dir s
  | .setEn dev en => Sys2Proof.Machine.execSetEn dev en s
  | .setDelay dev delay => Sys2Proof.Machine.execSetDelay dev delay s
  | .setAccel dev rate => Sys2Proof.Machine.execSetAccel dev rate s
  | .setPos dev pos => Sys2Proof.Machine.execSetPos dev pos s
  | .setMinspd dev rate => Sys2Proof.Machine.execSetMinspd dev rate s
  | .setMaxspd dev rate => Sys2Proof.Machine.execSetMaxspd dev rate s
  | .spd2dly rate => Sys2Proof.Machine.execSpd2dly rate s
  | .dly2spd delay => Sys2Proof.Machine.execDly2spd delay s
  | .get dev field => Sys2Proof.Machine.execGet dev field s
  | .stkPush dev value => Sys2Proof.Machine.execStkPush dev value s
  | .stkPop dev => Sys2Proof.Machine.execStkPop dev s
  | .moveAsyncNone dev steps => Sys2Proof.Machine.execMoveAsyncNone dev steps s
  | .moveAsyncRamp dev steps => Sys2Proof.Machine.execMoveAsyncRamp dev steps s
  | .moveAsyncUser dev tag steps => Sys2Proof.Machine.execMoveAsyncUser dev tag steps s
  | .moveBlock dev dir steps startDelay delayStep => Sys2Proof.Machine.execMoveBlock dev dir steps startDelay delayStep s
  | .waitIdle dev => Sys2Proof.Machine.execWaitIdle dev s
  | .moveTo dev target => Sys2Proof.Machine.execMoveTo dev target s
  | .moveMulti sequential axes => Sys2Proof.Machine.execMoveMulti sequential axes s

end Sys2Proof.Machine
end

