-- ==== Sys2Proof/Machine/Window.lean ====
section
/-! DEFINITION. The host window and the command port (20_memory.md R75 to R79; 10_state.md R46): one access of the
host per step; the access that writes the last word of a descriptor runs its command. -/

namespace Sys2Proof.Machine

/-- The registers of the host window (R75). -/
inductive WindowReg where
  | cmd
  | result
  | value
  | value2
  | status
  | irqFlags
  | irqEnable
  | fault
  deriving DecidableEq, Repr

/-- The register at a byte offset (R75). -/
def registerAt (offset : Nat) : Option WindowReg :=
  match offset with
  | 0x00 => some .cmd
  | 0x04 => some .result
  | 0x08 => some .value
  | 0x0C => some .value2
  | 0x10 => some .status
  | 0x14 => some .irqFlags
  | 0x18 => some .irqEnable
  | 0x1C => some .fault
  | _ => none

/-- The register an access reaches: a naturally aligned 32-bit access inside the window, else none (R77, U12). -/
def State.windowReg (s : State) (addr size : Nat) : Option WindowReg :=
  if size = 4 ∧ s.cfg.base ≤ addr then registerAt (addr - s.cfg.base) else none

/-- What a read of a register returns; no read has a side effect (R75, R78), and `CMD` reads zero (U24). -/
def State.windowRead (s : State) : WindowReg → Word
  | .cmd => 0#32
  | .result => s.result.err.zeroExtend 32
  | .value => s.result.value
  | .value2 => s.result.value2
  | .status => s.statusWord
  | .irqFlags => s.irqFlags
  | .irqEnable => s.irqEnable
  | .fault => s.fault

/-- The host's access is over and the host sees its reply. -/
def State.reply (s : State) (r : HostReply) : State := { s with hostLog := s.hostLog ++ [r] }

/-- What a whole descriptor does: its command runs, or one of the two refusals of 30_encoding.md R100 is latched. -/
def runDecoded (d : Decoded) (s : State) : Host.Outcome State Fault Refusal :=
  match d with
  | .command i => exec i s
  | .illegalCommand => .next (s.latch (Result.fail .illegalCommand))
  | .badArgument => .next (s.latch (Result.fail .badArgument))

/-- A descriptor word reaches a free command port: with it the descriptor is whole and runs, or it is kept (R75,
30_encoding.md R99). -/
def acceptWord (w : Word) (s : State) : Host.Outcome State Fault Refusal :=
  match decode (s.cmdBuf ++ [w]) with
  | none => .next { s with cmdBuf := s.cmdBuf ++ [w] }
  | some (d, _) => runDecoded d { s with cmdBuf := [] }

/-- A write to a register: `CMD` takes a word unless a command runs (U19); the others ignore it (U24). -/
def windowWrite (r : WindowReg) (w : Word) (s : State) : Host.Outcome State Fault Refusal :=
  match r with
  | .cmd => if s.cmdBusy then .next (s.reply .ignored) else acceptWord w (s.reply .taken)
  | .result | .value | .value2 | .status | .irqFlags | .irqEnable | .fault => .next (s.reply .ignored)

/-- One access of the host (R75 to R78); one outside the window or not an aligned word is rejected and changes no
state of the machine (U12, log 8). -/
def hostAccess (op : HostOp) (s : State) : Host.Outcome State Fault Refusal :=
  match op with
  | .read addr size =>
    match s.windowReg addr size with
    | some r => .next (s.reply (.data (s.windowRead r)))
    | none => .next (s.reply .rejected)
  | .write addr size data =>
    match s.windowReg addr size with
    | some r => windowWrite r data s
    | none => .next (s.reply .rejected)

/-- The host thread's step, `none` when it has no access to make. -/
def hostStep (s : State) : Option (Host.Outcome State Fault Refusal) :=
  match s.hostOps with
  | [] => none
  | op :: rest => some (hostAccess op { s with hostOps := rest })

/-- The accesses that write a descriptor to `CMD`, a word each. -/
def writesOf (base : Nat) (ws : List Word) : List HostOp := ws.map fun w => .write base 4 w

/-- A descriptor brought to the command port of a free command unit, all but its last word written, and the host's
turn next (log 26). -/
def State.presentWords (s : State) (ws : List Word) : State :=
  { s with
    seq := .idle
    cmdBusy := false
    cmdBuf := ws.dropLast
    hostOps := writesOf s.cfg.base [ws.getLastD 0#32] ++ s.hostOps
    schedule := .host :: s.schedule }

end Sys2Proof.Machine
end

