-- ==== Sys2Proof/Machine/Agents.lean ====
section
/-! DEFINITION. The agents and their interleaving (00_scope.md R12 to R14; 20_memory.md R80), and the platform's
reset (70_reset_and_hazards.md R300, R301). -/

namespace Sys2Proof.Machine

/-- Reset as the platform asserts it (R300, R301): every piece of the machine's state at its reset value. What is
outside the machine stays: the configuration, the choices still to come, what the host has seen (log 19). -/
def platformReset (s : State) : State :=
  { State.resetOf s.cfg with
    schedule := s.schedule
    hostOps := s.hostOps
    hostLog := s.hostLog
    handlers := s.handlers
    handlerLog := s.handlerLog
    freeIx := s.freeIx }

/-- The step of an agent, `none` where the spec gives it no step in this state. -/
def agentStep (a : Agent) (s : State) : Option (Host.Outcome State Fault Refusal) :=
  match a with
  | .host => hostStep s
  | .sequencer => (sequencerStep s).map .next
  | .burst c => (beatStep c s).map .next
  | .pulseGen p => (pulseStep p s).map .next
  | .dispatcher => (dispatchStep s).map .next
  | .platformReset => some (.next (platformReset s))

/-- One turn of the machine: the next agent of the schedule steps if its step is enabled; otherwise, and where the
schedule is over, nothing moves (log 5). A `Cfg` that breaks a constraint is refused (U25, log 15). -/
def advance (s : State) : Host.Outcome State Fault Refusal :=
  if s.cfg.ok then
    match s.schedule with
    | [] => .next s
    | a :: rest =>
      match agentStep a { s with schedule := rest } with
      | some out => out
      | none => .next { s with schedule := rest }
  else .refused .invalidConfig

end Sys2Proof.Machine
end

