-- ==== Sys2Proof/Machine/Step.lean ====
section
/-! DEFINITION. One step of the machine, and how the host places the next command. -/

namespace Sys2Proof.Machine

/-- One step: one atomic step of one agent (00_scope.md R13, 20_memory.md R80). -/
def step (s : State) : Host.Outcome State Fault Refusal := advance s

/-- The state whose next step runs the descriptor whose bits are `w` (log 26). -/
def State.withFetchWord (s : State) (nbits w : Nat) : State := s.presentWords (layoutWords nbits w)

end Sys2Proof.Machine
end

