-- ==== Sys2Proof/Safety.lean ====
section
/-! DEFINITION. What counts as a safe run, the invariants of the state, and the runs of the step relation with the
progress hypotheses of 00_scope.md R14 and 70_reset_and_hazards.md R312, in the terms claims use. -/

namespace Sys2Proof.Safety

open Sys2Proof.Machine

/-! ## Faulted runs -/

/-- A faulted run: a claim about motion holds only while no sticky bit is set (60_exceptions.md R271). -/
abbrev Faulted (s : State) : Prop := s.fault ≠ 0#32

/-! ## The invariants -/

/-- Every array of the state has the size the configuration gives it (10_state.md R21, R40, R47, R48). -/
abbrev Sized (s : State) : Prop :=
  s.dev.length = s.cfg.nDev ∧ s.chanMap.length = s.cfg.nCC ∧ s.xfer.length = s.cfg.nCC ∧
  s.pgq.length = s.cfg.nPG ∧ s.pulseLog.length = s.cfg.nPG

/-- Bits 31:6 of the fault word read as zero (60_exceptions.md R271). -/
abbrev FaultBitsNamed (s : State) : Prop := s.fault &&& ~~~0x3F#32 = 0#32

/-- The command port is busy exactly while the sequencer runs (10_state.md R45, R46). -/
abbrev PortDiscipline (s : State) : Prop := s.cmdBusy = true ↔ s.seq ≠ .idle

/-- A delay of the block (10_state.md R28, R39 (a)). -/
abbrev DelayInRange (c : Cfg) (w : Word) : Prop := c.minDelay ≤ w.toNat ∧ w.toNat < 2 ^ 30

/-- `command` is the encoding of the device's current fields (10_state.md R29, R39 (b)). -/
abbrev CommandCurrent (d : Device) : Prop := d.command = encodeControl d.delay d.direction d.enabled

/-- A speed register is unset or holds a rate the setters accept (10_state.md R37). -/
abbrev SpeedLegal (c : Cfg) (speed : Option Word) : Prop := speed.all (fun rate => !Cfg.badSpeed c rate) = true

/-- A ramp stack holds delays, at most STACK_DEPTH of them (10_state.md R38). -/
abbrev StackLegal (c : Cfg) (stack : List Word) : Prop :=
  stack.all (fun w => decide (w.toNat < 2 ^ 30)) = true ∧ ∀ n ∈ c.stackDepth, stack.length ≤ n

/-- The legal values of a claimed device (10_state.md R28, R29, R33, R37 to R39). -/
abbrev DeviceLegal (c : Cfg) (d : Device) : Prop :=
  DelayInRange c d.delay ∧ CommandCurrent d ∧ SpeedLegal c d.minSpeed ∧ SpeedLegal c d.maxSpeed ∧
  StackLegal c d.stack ∧ 1 ≤ d.movAccDen.toNat

/-- Every claimed device is legal (10_state.md R39 (a), (b)). -/
abbrev DevicesLegal (s : State) : Prop := ∀ d ∈ s.dev, d.inUse = true → DeviceLegal s.cfg d

/-- No input queue holds more than QDEPTH words (10_state.md R48, 20_memory.md R73). -/
abbrev QueuesBounded (s : State) : Prop := ∀ q ∈ s.pgq, q.length ≤ s.cfg.qDepth

/-- A claimed slot's channels are its own (40_registry.md R121; 10_state.md R23, R24, R40, R41). -/
abbrev SlotChannels (s : State) (i : Nat) : Prop :=
  s.slotOf (s.device i).ccChan = some i ∧ (s.device i).pgChan < s.cfg.nPG ∧
  (s.device i).pgChan ∉ s.pgFree

/-- No two claimed slots share a pulse-generator channel (10_state.md R41). -/
abbrev PgDistinct (s : State) : Prop :=
  ∀ i < s.cfg.nDev, ∀ j < s.cfg.nDev, (s.device i).inUse = true → (s.device j).inUse = true →
    (s.device i).pgChan = (s.device j).pgChan → i = j

/-- A completion channel: mapped to a claimed slot that holds it and enabled, or unmapped, disabled, idle, with no
flag (10_state.md R40 to R43, R47). -/
abbrev ChannelLegal (s : State) (c : Nat) : Prop :=
  (∀ i ∈ s.slotOf c, i < s.cfg.nDev ∧ (s.device i).inUse = true ∧ (s.device i).ccChan = c ∧
    (s.xferOf c).slot = i ∧ c ∉ s.ccFree) ∧
  s.irqEnable.getLsbD c = (s.slotOf c).isSome ∧
  (s.irqFlags.getLsbD c = true → (s.slotOf c).isSome = true) ∧
  ((s.xferOf c).active = true → (s.slotOf c).isSome = true)

/-- Every claimed slot holds its own channels. -/
abbrev SlotsLegal (s : State) : Prop := ∀ i < s.cfg.nDev, (s.device i).inUse = true → SlotChannels s i

/-- Every completion channel is legal; the words of flags and enables have 32 bits, of which NCC may be set. -/
abbrev ChannelsLegal (s : State) : Prop := ∀ c < 32, ChannelLegal s c

/-- The registry is consistent (40_registry.md R120 to R123). -/
structure RegistryLegal (s : State) : Prop where
  ccFreeSet : isChannelSet s.cfg.nCC s.ccFree = true
  pgFreeSet : isChannelSet s.cfg.nPG s.pgFree = true
  pgDistinct : PgDistinct s
  slots : SlotsLegal s
  channels : ChannelsLegal s

/-- MOVE_BLOCK is in progress on slot `i`. -/
def blockOn (s : State) (i : Nat) : Bool :=
  match s.seq with
  | .block j _ _ _ _ => i == j
  | .blockDrain j _ => i == j
  | .idle | .waitIdle _ | .to _ _ _ _ _ | .toWait _ _ _ _ _ | .multi _ _ _ _ _ | .multiWait _ _ _ _ _ => false

/-- `running` is true exactly while one transfer of the device's channel is armed, or its flag is set and not yet
dispatched, or MOVE_BLOCK is in progress on it; and never two of the three (10_state.md R39 (c), (d)). -/
abbrev RunningExact (s : State) (i : Nat) : Prop :=
  let c := (s.device i).ccChan
  let armed := (s.xferOf c).active
  let flagged := s.irqFlags.getLsbD c
  ((s.device i).running = true ↔ armed = true ∨ flagged = true ∨ blockOn s i = true) ∧
  (armed && flagged) = false ∧ (armed && blockOn s i) = false ∧ (flagged && blockOn s i) = false

/-- The running discipline of every claimed device. -/
abbrev RunningDiscipline (s : State) : Prop :=
  ∀ i < s.cfg.nDev, (s.device i).inUse = true → RunningExact s i

/-- The slots the sequencer works on are claimed: no macro command is accepted on another (60_exceptions.md R268), and
a claim lasts until reset (70_reset_and_hazards.md R303). -/
def SeqLegal (s : State) : Prop :=
  match s.seq with
  | .idle => True
  | .block i _ _ _ _ | .blockDrain i _ | .waitIdle i | .to i _ _ _ _ | .toWait i _ _ _ _ =>
    (s.device i).inUse = true
  | .multi ctx _ _ _ _ | .multiWait ctx _ _ _ _ => ∀ a ∈ ctx.axes, (s.device a.slot).inUse = true

/-- The invariant of the machine. -/
structure Inv (s : State) : Prop where
  cfgOk : s.cfg.ok = true
  sized : Sized s
  faultBits : FaultBitsNamed s
  port : PortDiscipline s
  sequencer : SeqLegal s
  devices : DevicesLegal s
  queues : QueuesBounded s
  registry : RegistryLegal s
  running : RunningDiscipline s

/-- `F_UNSET` and `F_UNMAPPED` are clear, and every claimed device that accelerates has a maximum speed
(60_exceptions.md R271; 44_accel_controller.md R217 (b), R223). -/
abbrev CapsSet (s : State) : Prop :=
  s.fault &&& 0x24#32 = 0#32 ∧ ∀ d ∈ s.dev, d.inUse = true → d.accelDir = .up → d.maxSpeed.isSome = true

/-! ## The step relation and its runs -/

/-- The spec's step relation: some agent steps (U21, 20_memory.md R80). -/
def StepRel (s t : State) : Prop := ∃ a, agentStep a s = some (.next t)

/-- An agent's step is enabled. -/
def Enabled (a : Agent) (s : State) : Prop := (agentStep a s).isSome = true

/-- What the outside has in store at each instant of a run: the host's next accesses and the handler oracle's next
answers (10_state.md R51). A host may go on for ever, and an oracle may answer every call of every dispatch, as one that
re-arms its device each time does (43_step_engine.md R199, 70_reset_and_hazards.md R315). -/
structure Outside where
  hostOps : Nat → List HostOp
  handlers : Nat → List (List Instr)

/-- The state with what the outside has in store at instant `n`. -/
def Outside.supply (out : Outside) (n : Nat) (s : State) : State :=
  { s with hostOps := out.hostOps n, handlers := out.handlers n }

/-- An infinite run: at each instant the outside says what comes next, and the chosen agent steps, or, where its step is
not enabled, nothing moves. -/
def IsRun (out : Outside) (run : Nat → State) (chosen : Nat → Agent) : Prop :=
  ∀ n, agentStep (chosen n) (out.supply n (run n)) = some (.next (run (n + 1))) ∨
    (agentStep (chosen n) (out.supply n (run n)) = none ∧ run (n + 1) = out.supply n (run n))

/-- Weak fairness for one agent: if its step stays enabled it is taken eventually (00_scope.md R14). -/
def FairFor (out : Outside) (run : Nat → State) (chosen : Nat → Agent) (a : Agent) : Prop :=
  ∀ n, (∀ m, n ≤ m → Enabled a (out.supply m (run m))) → ∃ m, n ≤ m ∧ chosen m = a

/-- Weak fairness of the command unit, the burst engines and the dispatcher (R14, R312 (a), (b)). -/
def Fair (out : Outside) (run : Nat → State) (chosen : Nat → Agent) : Prop :=
  FairFor out run chosen .sequencer ∧ FairFor out run chosen .dispatcher ∧ ∀ c, FairFor out run chosen (.burst c)

/-- The platform hypothesis `PG_LIVE` (70_reset_and_hazards.md R312 (c)); nothing in the model assumes it. -/
def PgLive (out : Outside) (run : Nat → State) (chosen : Nat → Agent) : Prop :=
  ∀ p, FairFor out run chosen (.pulseGen p)

/-- The states a machine of configuration `cfg` can reach, whatever the outside puts in the lists of its choices. -/
inductive Reachable (cfg : Cfg) : State → Prop where
  | reset : Reachable cfg (State.resetOf cfg)
  | outside (s : State) (schedule : List Agent) (hostOps : List HostOp) (handlers : List (List Instr)) :
      Reachable cfg s →
      Reachable cfg { s with schedule := schedule, hostOps := hostOps, handlers := handlers }
  | step (s t : State) : Reachable cfg s → Machine.step s = .next t → Reachable cfg t

end Sys2Proof.Safety
end

