-- ==== Sys2Proof/Certificates/Slice0/Obligations.lean ====
section
/-! DEFINITION. The statements about the model, for the provers. Each cites the rule of spec/ it formalises; the
words they are written with (`Claims`) are the spec's arithmetic, not the model's operations. -/

namespace Sys2Proof.Claims

open Sys2Proof.Machine

/-- A valid handle (60_exceptions.md R268). -/
abbrev Claimed (s : State) (h : Byte) : Prop :=
  h ≠ 0xFF#8 ∧ h.toNat < s.cfg.nDev ∧ (s.device h.toNat).inUse = true

/-- The state after a thread-context command that wrote `s` besides its result (R266). -/
def done (s : State) (r : Result) : State := { s with result := r, cmdBusy := false }

/-- The state after an accepted macro command's prologue that wrote `s` besides (10_state.md R45, R46). -/
def started (s : State) (q : Seq) : State := { s with seq := q, cmdBusy := true }

/-- The state after a macro command's last sequencer step that wrote `s` besides (R45, R46). -/
def finished (s : State) (r : Result) : State := { s with seq := .idle, result := r, cmdBusy := false }

/-- Success with values. -/
def won (value value2 : Word) : Result := ⟨0#8, value, value2⟩

/-- Failure with a code (30_encoding.md R98). -/
def lost (code : Byte) : Result := ⟨code, 0#32, 0#32⟩

/-- `s` with one slot replaced: every other slot, and everything else, as in `s`. -/
def withDev (s : State) (i : Nat) (d : Device) : State := { s with dev := s.dev.set i d }

/-- The control word by its arithmetic: bits 31:2 the delay, bit 1 the direction, bit 0 enabled (R90). -/
def controlWord (delay : Word) (dir en : Bool) : Word :=
  BitVec.ofNat 32 (4 * delay.toNat + 2 * dir.toNat + en.toNat)

/-- A delay in the clamp of MINDELAY (41_encoder.md R144). -/
def clamped (s : State) (v : Nat) : Word := BitVec.ofNat 32 (max v s.cfg.minDelay)

/-- A device whose delay is set to `v`, its control word recomputed (R144). -/
def delayed (s : State) (d : Device) (v : Nat) : Device :=
  { d with delay := clamped s v, command := controlWord (clamped s v) d.direction d.enabled }

/-- The one `dev` operand of a command (60_exceptions.md R267): every command but ALLOC, SPD2DLY, DLY2SPD, GET of a
global field, and MOVE_MULTI, which has one for each axis. -/
def handleOf : Instr → Option Byte
  | .config2 h _ _ _ | .config4 h _ _ | .setDir h _ | .setEn h _ | .setDelay h _ | .setAccel h _
  | .setPos h _ | .setMinspd h _ | .setMaxspd h _ | .stkPush h _ | .stkPop h | .moveAsyncNone h _
  | .moveAsyncRamp h _ | .moveAsyncUser h _ _ | .moveBlock h _ _ _ _ | .waitIdle h | .moveTo h _ => some h
  | .get h field => if field.toNat < 0x80 then some h else none
  | .alloc | .spd2dly _ | .dly2spd _ | .moveMulti _ _ => none

/-- MOVE_ASYNC by its callback (30_encoding.md R97). -/
def moveAsync (h : Byte) (steps : Word) : Callback → Instr
  | .none => .moveAsyncNone h steps
  | .ramp => .moveAsyncRamp h steps
  | .user tag => .moveAsyncUser h tag steps

/-- Commands run one after another in thread context, with their results. -/
def results : List Instr → State → Option (List Result × State)
  | [], s => some ([], s)
  | i :: rest, s =>
    match exec i s with
    | .next t => (results rest t).map fun p => (t.result :: p.1, p.2)
    | .fault _ | .refused _ => none

/-- A rational of the model as a number. -/
def value (r : Rate) : ℚ := (r.num : ℚ) / (r.den : ℚ)

/-- A per-device field table entry: identifier, `value`, `value2` (30_encoding.md R104), but for the numbers of
`numberTable`. -/
def fieldTable (d : Device) : List (Byte × Nat × Nat) :=
  [(0x00#8, d.enabled.toNat, 0), (0x01#8, d.direction.toNat, 0), (0x02#8, d.delay.toNat, 0),
   (0x03#8, d.command.toNat, 0), (0x04#8, d.position.toNat, 0), (0x05#8, d.running.toNat, 0),
   (0x06#8, d.acceleration.toNat, 0), (0x07#8, d.movAccNum.toNat % 2 ^ 32, d.movAccNum.toNat / 2 ^ 32),
   (0x08#8, d.movAccDen.toNat, 0)] ++
  [(0x09#8, (match d.accelDir with | .down => 2 ^ 32 - 1 | .coast => 0 | .up => 1), 0),
   (0x0A#8, d.coastingSlices.toNat, 0),
   (0x0B#8, (match d.callback with | .none => 0 | .ramp => 1 | .user tag => 2 + 256 * tag.toNat), 0),
   (0x0D#8, d.configured.toNat, 0),
   (0x10#8, (d.minSpeed.map BitVec.toNat).getD 0, d.minSpeed.isSome.toNat),
   (0x11#8, (d.maxSpeed.map BitVec.toNat).getD 0, d.maxSpeed.isSome.toNat)]

/-- The fields that are numbers to which no width is given: the length of `stack`, `pg_chan`, `cc_chan` (R104). -/
def numberTable (d : Device) : List (Byte × Nat) :=
  [(0x0C#8, d.stack.length), (0x0E#8, d.pgChan), (0x0F#8, d.ccChan)]

/-- A slot, a channel pair that ALLOC must choose: the first unused slot, the least free pulse-generator channel of
the primary bank if it has one, else of the secondary, and the least free completion channel (R121, R122). -/
def AllocChoice (s : State) (i p c : Nat) : Prop :=
  (i < s.cfg.nDev ∧ (s.device i).inUse = false ∧ ∀ j < i, (s.device j).inUse = true) ∧
  (p ∈ s.pgFree ∧ (p < s.cfg.pgpb ∨ ∀ q ∈ s.pgFree, s.cfg.pgpb ≤ q) ∧
    ∀ q ∈ s.pgFree, (q < s.cfg.pgpb ↔ p < s.cfg.pgpb) → p ≤ q) ∧
  (c ∈ s.ccFree ∧ ∀ q ∈ s.ccFree, c ≤ q)

/-- The delay after an accelerating ACCEL before the cap, by the closed form of 44_accel_controller.md R219, where it
is below the old delay; else one less than the old delay, which may be −1 (R216). -/
def rampTarget (s : State) (d : Device) : Int :=
  let K := 10 * s.cfg.maxRate
  let D := d.delay.toNat + 10
  let p := d.movAccNum.toNat
  let q := d.movAccDen.toNat
  let v := (K * K * D * q) / (K * K * q + p * s.cfg.numSteps * D * D) - 10
  if v = d.delay.toNat then (d.delay.toNat : Int) - 1 else v

/-- `n` applications of a function. -/
def iterate (f : State → State) : Nat → State → State
  | 0, s => s
  | n + 1, s => iterate f n (f s)

/-- The bursts the sequencer arms on device `i` when each is completed as soon as it is armed and nothing else moves,
with the state it ends in: the sequencer steps while the device is idle; while it runs, its burst is recorded and its
`running` falls (43_step_engine.md R189, 60_exceptions.md R277). -/
def soloBursts (i : Nat) : Nat → State → List (Nat × Callback) × State
  | 0, s => ([], s)
  | fuel + 1, s =>
    let d := s.device i
    if d.running then
      let out := soloBursts i fuel (withDev s i { d with running := false })
      (((s.xferOf d.ccChan).count.toNat, d.callback) :: out.1, out.2)
    else
      match sequencerStep s with
      | some t => soloBursts i fuel t
      | none => ([], s)

/-- Every burst in flight is over. -/
def allIdle (s : State) : State := { s with dev := s.dev.map fun d => { d with running := false } }

/-- The burst that a sequencer step from `s` to `t` arms on device `i`, if it arms one. -/
def burstArmed (i : Nat) (s t : State) : List (Nat × Callback) :=
  if (s.device i).running = false ∧ (t.device i).running = true then
    [((t.xferOf (t.device i).ccChan).count.toNat, (t.device i).callback)]
  else []

/-- The bursts the sequencer arms on device `i`, with the state it ends in, when it steps as long as it can and every
burst in flight is over once it waits (45_multi_axis.md R247 to R249, 60_exceptions.md R277). -/
def joinedBursts (i : Nat) : Nat → State → List (Nat × Callback) × State
  | 0, s => ([], s)
  | fuel + 1, s =>
    match sequencerStep s with
    | some t =>
      let out := joinedBursts i fuel t
      (burstArmed i s t ++ out.1, out.2)
    | none => joinedBursts i fuel (allIdle s)

/-- A single burst of `n` steps without a callback, none if `n` is 0. -/
def oneBurst (n : Nat) : List (Nat × Callback) := if n = 0 then [] else [(n, Callback.none)]

/-- The largest distance of the axes. -/
def maxDist (s : State) (axes : List (Byte × Word)) : Nat :=
  (axes.map fun a => (a.2.toInt - (s.device a.1.toNat).position.toInt).natAbs).foldr max 0

/-- `acceleration_steps` of 45_multi_axis.md R244. -/
def accelSteps (s : State) (axes : List (Byte × Word)) : Nat :=
  if ∃ a ∈ axes, (s.device a.1.toNat).acceleration = 0#32 then 0 else maxDist s axes / s.cfg.numSteps

/-- The context of 45_multi_axis.md R243 to R245. -/
def multiContext (s : State) (sequential : Bool) (axes : List (Byte × Word)) : MultiCtx where
  axes := axes.map fun a =>
    let dist := (a.2.toInt - (s.device a.1.toNat).position.toInt).natAbs
    ⟨a.1.toNat, dist, if accelSteps s axes = 0 then 0 else dist / accelSteps s axes, dist⟩
  mostSteps := maxDist s axes
  accelerationSteps := accelSteps s axes
  half := accelSteps s axes / 2
  sequential := sequential

/-- What MOVE_MULTI's prologue makes of an axis's device (45_multi_axis.md R244, R246). -/
def axisBegun (s : State) (most : Nat) (target : Word) (d : Device) : Device :=
  let dist := (target.toInt - d.position.toInt).natAbs
  let dir := Bool.xor (decide (d.position.toInt < target.toInt)) s.cfg.dirPol
  let delay : Word :=
    match s.cfg.multiResetsDelay, d.minSpeed with
    | true, some m => clamped s (s.cfg.rateDelay m)
    | _, _ => d.delay
  { d with
    position := target
    direction := dir
    delay := delay
    command := controlWord delay dir d.enabled
    movAccNum := BitVec.ofNat 64 (d.acceleration.toNat * dist)
    movAccDen := BitVec.ofNat 32 most
    accelDir := .up
    coastingSlices := 0#32
    stack := [] }

end Sys2Proof.Claims

open Sys2Proof Sys2Proof.Machine Sys2Proof.Safety Sys2Proof.Claims

/-! ## Encodings -/

/-- R90, R91: the control word's layout, and decoding inverts it both ways. -/
def Obligations.ControlWordLayoutAndRoundTrip : Prop :=
  (∀ (delay : Word) (dir en : Bool), delay.toNat < 2 ^ 30 →
    (encodeControl delay dir en).toNat = 4 * delay.toNat + 2 * dir.toNat + en.toNat ∧
    decodeControl (encodeControl delay dir en) = (delay, dir, en)) ∧
  ∀ w : Word, (decodeControl w).1.toNat < 2 ^ 30 ∧
    encodeControl (decodeControl w).1 (decodeControl w).2.1 (decodeControl w).2.2 = w

/-- R94, R96, R97, R99: a well-formed command's descriptor decodes to it, and to nothing past its end. -/
def Obligations.DecodeOfEncode : Prop :=
  ∀ (i : Instr) (rest : List Word), i.wellFormed = true →
    decode (encode i ++ rest) = some (.command i, rest)

/-- R93, R94, R100: a descriptor that decodes to a command is that command's own encoding, so no bit is ignored. -/
def Obligations.EncodeOfDecode : Prop :=
  ∀ (ws rest : List Word) (i : Instr), decode ws = some (.command i, rest) →
    i.wellFormed = true ∧ ws = encode i ++ rest

/-- opcode_table.json against R93, R94, R97: the decoder names a row exactly where the row's match and mask do, and no
header is two rows'. -/
def Obligations.DecoderAgreesWithOpcodeTable : Prop :=
  ∀ (h : Word) (op : Op), opOf h = some op ↔ ∃ r ∈ opcodeRows, r.op = op ∧ h &&& r.maskBits = r.matchBits

/-- Words written out in 95_test_vectors.md (P1, P2, P3, P5) decode to the commands they stand for. -/
def Obligations.SpecDescriptorsDecode : Prop :=
  decode [0x00000001#32] = some (.command .alloc, []) ∧
  decode [0x00000002#32, 0x00000203#32, 0x00010000#32] =
    some (.command (.config2 0#8 3#8 2#8 0x00010000#32), []) ∧
  decode [0x00010111#32] = some (.command (.setEn 1#8 true), []) ∧
  decode [0x07020030#32, 5#32] = some (.command (.moveAsyncUser 0#8 7#8 5#32), []) ∧
  decode [0x00010031#32, 3#32, 0x384#32, 0xFFFFFFF6#32] =
    some (.command (.moveBlock 0#8 true 3#32 900#32 0xFFFFFFF6#32), []) ∧
  decode [0x00020041#32, 0#32, 4000#32, 1#32, 2000#32] =
    some (.command (.moveMulti false [(0#8, 4000#32), (1#8, 2000#32)]), [])

/-- R100: a header that matches no row is one word long, fails with `IllegalCommand` and changes no state; a legal
header with a reserved argument bit set fails with `BadArgument` after all its words, and changes no state; callback
kind 3 is illegal; every sequence of words is cut into commands: whenever the words the header asks for are there, the
decoder answers and consumes them. -/
def Obligations.ReservedDescriptorsAreRefused : Prop :=
  (∀ (h : Word) (rest : List Word), (∀ r ∈ opcodeRows, h &&& r.maskBits ≠ r.matchBits) →
    decode (h :: rest) = some (.illegalCommand, rest)) ∧
  (∀ (dev tag : Byte) (rest : List Word), decode (headerOf 0x30#8 dev 3#8 tag :: rest) = some (.illegalCommand, rest)) ∧
  (∀ (dev : Byte) (w1 w2 : Word) (rest : List Word), w1.toNat / 2 ^ 16 ≠ 0 →
    decode (headerOf 0x02#8 dev 0#8 0#8 :: w1 :: w2 :: rest) = some (.badArgument, rest)) ∧
  (∀ (dev : Byte) (w1 w2 : Word) (rest : List Word), w1.toNat / 2 ^ 8 ≠ 0 →
    decode (headerOf 0x03#8 dev 0#8 0#8 :: w1 :: w2 :: rest) = some (.badArgument, rest)) ∧
  (∀ (aux : Byte) (args rest : List Word), args.length = 2 * (aux.toNat % 128) →
    (∃ k, k < aux.toNat % 128 ∧ (args.getD (2 * k) 0#32).toNat / 2 ^ 8 ≠ 0) →
    decode (headerOf 0x41#8 0#8 aux 0#8 :: (args ++ rest)) = some (.badArgument, rest)) ∧
  (∀ (h : Word) (ws : List Word), descLen h ≤ (h :: ws).length →
    ∃ d, decode (h :: ws) = some (d, (h :: ws).drop (descLen h))) ∧
  (∀ s : State, runDecoded .illegalCommand s = .next (done s (lost 7#8)) ∧
    runDecoded .badArgument s = .next (done s (lost 6#8)))

/-! ## Steps -/

/-- 20_memory.md R75, 30_encoding.md R99, R100: the write of the last word of a descriptor to a free `CMD` runs the
command it decodes to, on the state with the access consumed; where the descriptor is illegal or has a reserved argument
bit set, the step latches that refusal and changes nothing besides. -/
def Obligations.StepRunsDecodedCommand : Prop :=
  ∀ (s : State) (agents : List Agent) (ops : List HostOp) (w : Word) (d : Decoded) (rest : List Word),
    s.cfg.ok = true → s.cmdBusy = false → s.schedule = .host :: agents →
    s.hostOps = .write s.cfg.base 4 w :: ops → decode (s.cmdBuf ++ [w]) = some (d, rest) →
    let taken := { s with
      schedule := agents, hostOps := ops, hostLog := s.hostLog ++ [.taken], cmdBuf := [] }
    step s = runDecoded d taken ∧
    (∀ i : Instr, d = .command i → step s = exec i taken) ∧
    (d = .illegalCommand → step s = .next (done taken (lost 7#8))) ∧
    (d = .badArgument → step s = .next (done taken (lost 6#8)))

/-- The host's placement of a table word (log 26): the next step runs exactly the instruction the decoder reads. -/
def Obligations.FetchWordRunsTableInstruction : Prop :=
  ∀ (s : State) (nbits w : Nat) (i : Instr), s.cfg.ok = true → decodeTableWord nbits w = some i →
    step (s.withFetchWord nbits w) =
      exec i { s with seq := .idle, cmdBusy := false, cmdBuf := [], hostLog := s.hostLog ++ [.taken] }

/-- R319: "every command on every state has a defined result": no command stops. That a step of a legal machine answers
too, an agent with no enabled step moving nothing, is the model's choice (log 5, DESIGN CHOICE); so is that the check of a
configuration that is not a PSMCA (U25) is a refusal of `step` (log 15, DEDUCED). -/
def Obligations.NoCommandAndNoStepStops : Prop :=
  (∀ (i : Instr) (s : State), ∃ t, exec i s = .next t) ∧
  (∀ s : State, s.cfg.ok = true → ∃ t, step s = .next t) ∧
  ∀ s : State, s.cfg.ok = false → step s = .refused .invalidConfig

/-- R52, R301: the platform's reset gives every piece of state the value the spec states, drops a transfer in flight
and the queued words, leaves the line low, and is idempotent. -/
def Obligations.ResetGivesTheStatedValues : Prop :=
  ∀ (s : State) (agents : List Agent), s.cfg.ok = true → s.schedule = .platformReset :: agents →
    ∃ t, step s = .next t ∧
      (∀ i, (t.device i).inUse = false) ∧ t.dev.length = s.cfg.nDev ∧
      t.chanMap = List.replicate s.cfg.nCC none ∧ t.ccFree = s.cfg.ccAvail ∧ t.pgFree = s.cfg.pgAvail ∧
      t.irqFlags = 0#32 ∧ t.irqEnable = 0#32 ∧ t.fault = 0#32 ∧ t.seq = .idle ∧ t.cmdBusy = false ∧
      (∀ c, (t.xferOf c).active = false ∧ (t.xferOf c).count = 0#32) ∧
      (∀ p, t.queue p = [] ∧ t.log p = []) ∧ t.irqLine = false ∧ platformReset t = t

/-- The invariant holds after reset, for every configuration and whatever the outside has in store. -/
def Obligations.ResetMeetsInvariant : Prop :=
  ∀ (c : Cfg) (agents : List Agent) (ops : List HostOp) (answers : List (List Instr)), c.ok = true →
    Inv { State.resetOf c with schedule := agents, hostOps := ops, handlers := answers }

/-- R39, R40 to R48: every step of every agent keeps the invariant of the machine: the delay range and the current
control word, the running discipline, the consistent registry, the bounded queues, the port discipline. -/
def Obligations.StepKeepsInvariant : Prop :=
  ∀ s t : State, Inv s → step s = .next t → Inv t

/-- R39 (a), (b): the delay range, the current control word, the legal speeds and stack of every claimed device are
kept by every step, with no other premise. -/
def Obligations.StepKeepsDevicesLegal : Prop :=
  ∀ s t : State, DevicesLegal s → step s = .next t → DevicesLegal t

/-- No step changes the configuration or the size of an array of the state (00_scope.md R7, 10_state.md R20). -/
def Obligations.StepKeepsConfigurationAndSizes : Prop :=
  ∀ s t : State, step s = .next t →
    t.cfg = s.cfg ∧ t.dev.length = (if s.schedule.head? = some .platformReset then s.cfg.nDev else s.dev.length) ∧
    (Sized s → Sized t)

/-- R45, R46, R73: the port is busy exactly while the sequencer runs, and no queue overflows, after every step. -/
def Obligations.StepKeepsPortDisciplineAndQueues : Prop :=
  ∀ s t : State, step s = .next t →
    (PortDiscipline s → PortDiscipline t) ∧ (QueuesBounded s → QueuesBounded t)

/-- R271: a sticky fault bit once set stays set until reset, and bits 31:6 stay zero. -/
def Obligations.StickyFaultsStayUntilReset : Prop :=
  ∀ s t : State, step s = .next t →
    (s.schedule.head? ≠ some .platformReset → s.fault &&& t.fault = s.fault) ∧
    (s.schedule.head? = some .platformReset → t.fault = 0#32) ∧
    (FaultBitsNamed s → FaultBitsNamed t)

/-- R303: a claimed slot, its two channels, its enable bit and its `configured` state last until reset. -/
def Obligations.ClaimsLastUntilReset : Prop :=
  ∀ (s t : State) (i : Nat), Inv s → step s = .next t → s.schedule.head? ≠ some .platformReset →
    (s.device i).inUse = true →
    (t.device i).inUse = true ∧ (t.device i).pgChan = (s.device i).pgChan ∧
    (t.device i).ccChan = (s.device i).ccChan ∧ t.slotOf (s.device i).ccChan = some i ∧
    t.irqEnable.getLsbD (s.device i).ccChan = true ∧
    ((s.device i).configured = true → (t.device i).configured = true ∧
      (t.device i).variant = (s.device i).variant ∧ (t.device i).basePin = (s.device i).basePin ∧
      (t.device i).clkdiv = (s.device i).clkdiv) ∧
    (t.device i).pgChan ∉ t.pgFree ∧ (t.device i).ccChan ∉ t.ccFree

/-- R198: no command clears `xfer_active`, lowers `xfer_count` or empties a queue: not in the step that accepts it, not
in a later step of a macro command, which at most appends to a queue, and not in handler context, inside a dispatch. -/
def Obligations.NoCommandCancelsATransfer : Prop :=
  ∀ s t : State, Inv s →
    let armedStay := ∀ c, (s.xferOf c).active = true → t.xferOf c = s.xferOf c
    (∀ i : Instr, exec i s = .next t → armedStay ∧ t.pgq = s.pgq ∧ t.pulseLog = s.pulseLog) ∧
    (sequencerStep s = some t →
      armedStay ∧ (∀ p, s.queue p <+: t.queue p) ∧ t.pgq.length = s.pgq.length ∧ t.pulseLog = s.pulseLog) ∧
    (dispatchStep s = some t → armedStay ∧ t.pgq = s.pgq ∧ t.pulseLog = s.pulseLog)

/-- 10_state.md R31: `running` of a claimed device falls only in a dispatch, or at the end of the MOVE_BLOCK that set
it, or at reset; and not in a dispatch whose handlers re-arm it, so that no wait on it can proceed (43_step_engine.md
R199, 70_reset_and_hazards.md R315). That a dispatch takes its handlers' answers from a list is log 6's. -/
def Obligations.RunningFallsOnlyByDispatchOrDrain : Prop :=
  (∀ (s t : State) (i : Nat), step s = .next t → (s.device i).inUse = true →
    (s.device i).running = true → (t.device i).running = false →
    s.schedule.head? = some .dispatcher ∨ s.schedule.head? = some .platformReset ∨
    (s.schedule.head? = some .sequencer ∧ ∃ r, s.seq = .blockDrain i r)) ∧
  ∀ (s t : State) (h tag : Byte) (steps : Word), Inv s → dispatchStep s = some t → Claimed s h →
    (s.device h.toNat).configured = true → (s.device h.toNat).running = true →
    (s.device h.toNat).callback = .user tag → steps ≠ 0#32 → s.cfg.nCC ≤ s.handlers.length →
    (∀ answer ∈ s.handlers, answer = [.moveAsyncUser h tag steps]) →
    (t.device h.toNat).running = true ∧ (t.device h.toNat).callback = .user tag ∧ t.seq = s.seq

/-- 10_state.md R30: of the commands only SET_POS, MOVE_TO and MOVE_MULTI change the position of a claimed device, and
the sequencer, the burst engines and the pulse generators never do (70_reset_and_hazards.md R313). -/
def Obligations.PositionIsBookkeeping : Prop :=
  (∀ (s t : State) (i : Instr) (j : Nat), exec i s = .next t → (s.device j).inUse = true →
    (∀ h p, i ≠ .setPos h p) → (∀ h p, i ≠ .moveTo h p) → (∀ q a, i ≠ .moveMulti q a) →
    (t.device j).position = (s.device j).position) ∧
  (∀ (s t : State) (j : Nat), sequencerStep s = some t → (t.device j).position = (s.device j).position) ∧
  (∀ (s t : State) (c j : Nat), beatStep c s = some t → (t.device j).position = (s.device j).position) ∧
  ∀ (s t : State) (p j : Nat), pulseStep p s = some t → (t.device j).position = (s.device j).position

/-! ## Registry -/

/-- R268: a command on a handle that is the sentinel, out of range or unclaimed fails with `InvalidDevice` and touches
nothing else; MOVE_MULTI does so for any of its handles. -/
def Obligations.InvalidHandleTouchesNothing : Prop :=
  (∀ (s : State) (i : Instr) (h : Byte), handleOf i = some h → ¬Claimed s h →
    exec i s = .next (done s (lost 2#8))) ∧
  ∀ (s : State) (q : Bool) (axes : List (Byte × Word)) (a : Byte × Word), axes.length ≤ s.cfg.nDev → a ∈ axes →
    ¬Claimed s a.1 → exec (.moveMulti q axes) s = .next (done s (lost 2#8))

/-- R121, R122, 10_state.md R53: ALLOC claims the first unused slot, the least channel of the first bank that has one
and the least completion channel, gives the slot its stated values and changes nothing else; `variant`, `base_pin` and
`clkdiv`, which R53 leaves unspecified, hold some value. -/
def Obligations.AllocClaimsLeastFree : Prop :=
  ∀ (s : State) (i p c : Nat), AllocChoice s i p c →
    ∃ (variant : Variant) (basePin : Byte) (clkdiv : Word),
      exec .alloc s = .next (done { s with
        dev := s.dev.set i
          { inUse := true, pgChan := p, ccChan := c, configured := false, variant := variant, basePin := basePin,
            clkdiv := clkdiv, enabled := false, direction := s.cfg.dirPol, delay := BitVec.ofNat 32 s.cfg.minDelay,
            command := controlWord (BitVec.ofNat 32 s.cfg.minDelay) s.cfg.dirPol false, position := 0#32,
            running := false, acceleration := 0#32, movAccNum := 0#64, movAccDen := 1#32, accelDir := .coast,
            coastingSlices := 0#32, callback := .none, minSpeed := none, maxSpeed := none, stack := [] }
        pgFree := s.pgFree.filter fun q => decide (q ≠ p)
        ccFree := s.ccFree.filter fun q => decide (q ≠ c)
        chanMap := s.chanMap.set c (some i)
        irqEnable := s.irqEnable ||| BitVec.ofNat 32 (2 ^ c)
        xfer := s.xfer.set c ⟨0#32, false, i⟩
        freeIx := s.freeIx + 1 } (won (BitVec.ofNat 32 i) 0#32))

/-- R123, R124: an ALLOC that finds no slot or no channel returns the sentinel and writes nothing else. -/
def Obligations.AllocFailsWhole : Prop :=
  ∀ s : State, ((∀ i < s.cfg.nDev, (s.device i).inUse = true) ∨ s.pgFree = [] ∨ s.ccFree = []) →
    exec .alloc s = .next (done s ⟨1#8, 0xFF#32, 0#32⟩)

/-- R128: with every channel available and `NDEV ≤ min(2·PGPB, NCC)`, NDEV allocations from reset succeed with handles
0 to NDEV−1, and the next fails with `ResourceExhausted` and leaves the registry as it was. -/
def Obligations.AllocExhaustsAtDeviceCount : Prop :=
  ∀ c : Cfg, c.ok = true → c.ccAvail = List.range c.nCC → c.pgAvail = List.range c.nPG →
    c.nDev ≤ c.nPG → c.nDev ≤ c.nCC →
    ∃ s, results (List.replicate c.nDev .alloc) (State.resetOf c) =
        some ((List.range c.nDev).map fun i => won (BitVec.ofNat 32 i) 0#32, s) ∧
      (∀ i < c.nDev, (s.device i).inUse = true ∧ (s.device i).pgChan = i ∧ (s.device i).ccChan = i) ∧
      exec .alloc s = .next (done s ⟨1#8, 0xFF#32, 0#32⟩)

/-- R125, R126, R127: CONFIG2 picks the two-wire variant by pin order and the lower pin, CONFIG4 the four-wire one, on
a device not yet configured; a second CONFIG, or equal pins, fails with `BadArgument` and changes nothing. -/
def Obligations.ConfigRegistersOneProgramOnce : Prop :=
  ∀ (s : State) (h dirPin stepPin basePin : Byte) (clkdiv : Word), Claimed s h →
    let d := s.device h.toNat
    (d.configured = false → dirPin ≠ stepPin →
      exec (.config2 h dirPin stepPin clkdiv) s = .next (done (withDev s h.toNat
        { d with
          configured := true
          clkdiv := clkdiv
          variant := if stepPin.toNat < dirPin.toNat then .twoWire else .twoWireReversed
          basePin := BitVec.ofNat 8 (min stepPin.toNat dirPin.toNat) }) (won 0#32 0#32))) ∧
    (d.configured = false →
      exec (.config4 h basePin clkdiv) s = .next (done (withDev s h.toNat
        { d with configured := true, clkdiv := clkdiv, variant := .fourWire, basePin := basePin }) (won 0#32 0#32))) ∧
    (d.configured = true →
      exec (.config2 h dirPin stepPin clkdiv) s = .next (done s (lost 6#8)) ∧
      exec (.config4 h basePin clkdiv) s = .next (done s (lost 6#8))) ∧
    exec (.config2 h dirPin dirPin clkdiv) s = .next (done s (lost 6#8))

/-! ## Encoder -/

/-- R142, R143, R146, R147: SET_DIR stores the wire direction and SET_EN the enable bit, each with the control word
recomputed in the same step; SET_ACCEL and SET_POS store their operand; each changes nothing else. -/
def Obligations.FieldSettersWriteOneField : Prop :=
  ∀ (s : State) (h : Byte) (dir en : Bool) (rate pos : Word), Claimed s h →
    let d := s.device h.toNat
    exec (.setDir h dir) s = .next (done (withDev s h.toNat
      { d with
        direction := Bool.xor dir s.cfg.dirPol
        command := controlWord d.delay (Bool.xor dir s.cfg.dirPol) d.enabled }) (won 0#32 0#32)) ∧
    exec (.setEn h en) s = .next (done (withDev s h.toNat
      { d with enabled := en, command := controlWord d.delay d.direction en }) (won 0#32 0#32)) ∧
    exec (.setAccel h rate) s = .next (done (withDev s h.toNat { d with acceleration := rate }) (won 0#32 0#32)) ∧
    exec (.setPos h pos) s = .next (done (withDev s h.toNat { d with position := pos }) (won 0#32 0#32))

/-- R144, R145: SET_DELAY rejects 2^30 and more, else stores the delay clamped to MINDELAY with the control word
recomputed. -/
def Obligations.SetDelayRejectsThenClamps : Prop :=
  ∀ (s : State) (h : Byte) (v : Word), Claimed s h →
    (2 ^ 30 ≤ v.toNat → exec (.setDelay h v) s = .next (done s (lost 4#8))) ∧
    (v.toNat < 2 ^ 30 →
      exec (.setDelay h v) s =
        .next (done (withDev s h.toNat (delayed s (s.device h.toNat) v.toNat)) (won 0#32 0#32)))

/-- R148, R149: the speed setters refuse rate 0 and a rate whose delay is 2^30 or more, else store the rate and do not
change the delay. -/
def Obligations.SpeedSettersCheckTheDelay : Prop :=
  ∀ (s : State) (h : Byte) (rate : Word), Claimed s h →
    let d := s.device h.toNat
    ((rate = 0#32 ∨ 2 ^ 30 ≤ s.cfg.s2d ⟨rate.toNat, 1⟩) →
      exec (.setMinspd h rate) s = .next (done s (lost 4#8)) ∧
      exec (.setMaxspd h rate) s = .next (done s (lost 4#8))) ∧
    (rate ≠ 0#32 → s.cfg.s2d ⟨rate.toNat, 1⟩ < 2 ^ 30 →
      exec (.setMinspd h rate) s =
        .next (done (withDev s h.toNat { d with minSpeed := some rate }) (won 0#32 0#32)) ∧
      exec (.setMaxspd h rate) s =
        .next (done (withDev s h.toNat { d with maxSpeed := some rate }) (won 0#32 0#32)))

/-- R153, R154: the converters change nothing but the result. SPD2DLY refuses rate 0 and returns the delay, under the
exact instance `max(10·MAXRATE / rate − 10, 0)`; DLY2SPD refuses 2^30 and more and returns quotient and remainder of
`10·MAXRATE` by `delay + 10`. -/
def Obligations.ConvertersReturnExactDivisions : Prop :=
  ∀ (s : State) (w : Word), s.cfg.ok = true →
    exec (.spd2dly 0#32) s = .next (done s (lost 4#8)) ∧
    (w ≠ 0#32 → exec (.spd2dly w) s = .next (done s (won (BitVec.ofNat 32 (s.cfg.s2d ⟨w.toNat, 1⟩)) 0#32))) ∧
    (w ≠ 0#32 → s.cfg.numerics = .exact →
      ∃ v : Word, exec (.spd2dly w) s = .next (done s (won v 0#32)) ∧
        v.toNat = 10 * s.cfg.maxRate / w.toNat - 10) ∧
    (2 ^ 30 ≤ w.toNat → exec (.dly2spd w) s = .next (done s (lost 4#8))) ∧
    (w.toNat < 2 ^ 30 →
      ∃ q r : Word, exec (.dly2spd w) s = .next (done s (won q r)) ∧
        10 * s.cfg.maxRate = q.toNat * (w.toNat + 10) + r.toNat ∧ r.toNat < w.toNat + 10)

/-- R150, R151, R152: the exact instance's three functions are the spec's formulas over the rationals, with its
properties of `s2d`, its integer form and its second form of `d2s`. -/
def Obligations.ExactRatesAreTheFormulas : Prop :=
  ∀ c : Cfg, c.numerics = .exact → 1 ≤ c.maxRate →
    (∀ r : Rate, 0 < r.num → 0 < r.den →
      (c.s2d r : ℤ) = ⌊max (10 * (c.maxRate : ℚ) / value r - 10) 0⌋) ∧
    (∀ n : Nat, 1 ≤ n → c.s2d ⟨n, 1⟩ = max (10 * c.maxRate / n - 10) 0) ∧
    (∀ r t : Rate, 0 < r.num → 0 < r.den → 0 < t.num → 0 < t.den → value r ≤ value t → c.s2d t ≤ c.s2d r) ∧
    (∀ r : Rate, 0 < r.num → 0 < r.den → (c.maxRate : ℚ) ≤ value r → c.s2d r = 0) ∧
    (∀ d : Nat, value (c.d2s d) = (c.maxRate : ℚ) / ((d : ℚ) / 10 + 1) ∧
      value (c.d2s d) = 10 * (c.maxRate : ℚ) / ((d : ℚ) + 10) ∧ 0 < value (c.d2s d)) ∧
    (∀ v a : Rate, 0 < v.num → 0 < v.den → 0 < a.den →
      value (c.project v a) = value v + value a * ((c.numSteps : ℚ) / value v))

/-- R157: the converters are inexact inverses in just the stated way. -/
def Obligations.InexactInverses : Prop :=
  ∀ c : Cfg, c.numerics = .exact → 1 ≤ c.maxRate →
    (∀ d : Nat, c.s2d (c.d2s d) = d) ∧
    (∀ r : Rate, 0 < r.num → 0 < r.den → value r ≤ c.maxRate →
      value r ≤ value (c.d2s (c.s2d r)) ∧
      (value (c.d2s (c.s2d r)) = value r ↔ ∃ n : ℕ, 10 * (c.maxRate : ℚ) / value r = n)) ∧
    ∀ r : Rate, 0 < r.num → 0 < r.den → (c.maxRate : ℚ) < value r →
      value (c.d2s (c.s2d r)) = c.maxRate ∧ (c.maxRate : ℚ) < value r

/-- R155, 30_encoding.md R104: GET returns every field as the table says and changes nothing else; an unknown
identifier, or a global one with a device, fails with `BadArgument`. A stack length or a channel number that does not
fit 32 bits reads as some value, which is free (log 27, DESIGN CHOICE). -/
def Obligations.GetReadsTheFieldTable : Prop :=
  (∀ (s : State) (h : Byte), Claimed s h →
    (∀ e ∈ fieldTable (s.device h.toNat),
      exec (.get h e.1) s = .next (done s (won (BitVec.ofNat 32 e.2.1) (BitVec.ofNat 32 e.2.2)))) ∧
    (∀ e ∈ numberTable (s.device h.toNat),
      ∃ v : Word, exec (.get h e.1) s = .next (done s (won v 0#32)) ∧ (e.2 < 2 ^ 32 → v.toNat = e.2)) ∧
    ∀ field : Byte, 0x11 < field.toNat → field.toNat < 0x80 →
      exec (.get h field) s = .next (done s (lost 6#8))) ∧
  ∀ s : State,
    exec (.get 0#8 0x80#8) s = .next (done s (won s.irqFlags 0#32)) ∧
    exec (.get 0#8 0x81#8) s = .next (done s (won s.irqEnable 0#32)) ∧
    exec (.get 0#8 0x82#8) s = .next (done s (won s.fault 0#32)) ∧
    ∀ h field : Byte, 0x80 ≤ field.toNat → (h ≠ 0#8 ∨ 0x82 < field.toNat) →
      exec (.get h field) s = .next (done s (lost 6#8))

/-! ## Ramp stack -/

/-- R171, R172, R174, R175: a push stores at the end, or on a full stack stores nothing and sets `F_STACK_OVF`; a pop
removes the last element, or returns the empty signal with success; a value of 2^30 or more is refused. -/
def Obligations.StackCommandsPushAndPop : Prop :=
  ∀ (s : State) (h : Byte) (v : Word), Claimed s h →
    let d := s.device h.toNat
    (2 ^ 30 ≤ v.toNat → exec (.stkPush h v) s = .next (done s (lost 4#8))) ∧
    (v.toNat < 2 ^ 30 → (∀ n ∈ s.cfg.stackDepth, d.stack.length < n) →
      exec (.stkPush h v) s =
        .next (done (withDev s h.toNat { d with stack := d.stack ++ [v] }) (won 0#32 0#32))) ∧
    (v.toNat < 2 ^ 30 → (∃ n ∈ s.cfg.stackDepth, n ≤ d.stack.length) →
      exec (.stkPush h v) s = .next (done { s with fault := s.fault ||| 1#32 } (won 0#32 0#32))) ∧
    (∀ (l : List Word) (r : Word), d.stack = l ++ [r] →
      exec (.stkPop h) s = .next (done (withDev s h.toNat { d with stack := l }) (won r 0#32))) ∧
    (d.stack = [] → exec (.stkPop h) s = .next (done s (won 0xFFFFFFFF#32 1#32)))

/-- R176: three pushes then three pops return c, b, a and restore the stack; a pop of an empty stack yields the empty
signal; a pop after a push on a stack that is not full returns the value and restores the stack. -/
def Obligations.StackIsLastInFirstOut : Prop :=
  (∀ (s : State) (h : Byte) (a b c : Word), Claimed s h →
    a.toNat < 2 ^ 30 → b.toNat < 2 ^ 30 → c.toNat < 2 ^ 30 →
    (∀ n ∈ s.cfg.stackDepth, (s.device h.toNat).stack.length + 3 ≤ n) →
    results [.stkPush h a, .stkPush h b, .stkPush h c, .stkPop h, .stkPop h, .stkPop h] s =
      some ([won 0#32 0#32, won 0#32 0#32, won 0#32 0#32, won c 0#32, won b 0#32, won a 0#32],
        done s (won a 0#32))) ∧
  (∀ (s : State) (h : Byte), Claimed s h → (s.device h.toNat).stack = [] →
    results [.stkPop h] s = some ([won 0xFFFFFFFF#32 1#32], done s (won 0xFFFFFFFF#32 1#32))) ∧
  ∀ (s : State) (h : Byte) (v : Word), Claimed s h → v.toNat < 2 ^ 30 →
    (∀ n ∈ s.cfg.stackDepth, (s.device h.toNat).stack.length < n) →
    results [.stkPush h v, .stkPop h] s = some ([won 0#32 0#32, won v 0#32], done s (won v 0#32))

/-- R177 and the frame of every command with one device: another claimed device's fields, its stack among them, are
never touched on its behalf. -/
def Obligations.OneDeviceCommandsTouchOneDevice : Prop :=
  ∀ (s t : State) (i : Instr) (h : Byte) (j : Nat), handleOf i = some h → exec i s = .next t → j ≠ h.toNat →
    t.device j = s.device j ∧ t.chanMap = s.chanMap ∧ t.ccFree = s.ccFree ∧ t.pgFree = s.pgFree ∧
    t.irqFlags = s.irqFlags ∧ t.irqEnable = s.irqEnable ∧ t.pgq = s.pgq ∧ t.pulseLog = s.pulseLog ∧
    ∀ c, c ≠ (s.device h.toNat).ccChan → t.xferOf c = s.xferOf c

/-! ## Step engine -/

/-- R186, R187, R188: MOVE_ASYNC, whatever its callback, arms the device's channel and changes nothing else; refused,
by the first failing check, it is a complete no-op. -/
def Obligations.MoveAsyncArmsOrIsNoOp : Prop :=
  ∀ (s : State) (h : Byte) (steps : Word) (cb : Callback), Claimed s h →
    let d := s.device h.toNat
    (d.configured = true → d.running = false → steps ≠ 0#32 →
      exec (moveAsync h steps cb) s = .next (done { s with
        dev := s.dev.set h.toNat { d with callback := cb, running := true }
        xfer := s.xfer.set d.ccChan ⟨steps, true, h.toNat⟩ } (won 0#32 0#32))) ∧
    (d.configured = false → exec (moveAsync h steps cb) s = .next (done s (lost 5#8))) ∧
    (d.configured = true → d.running = true → exec (moveAsync h steps cb) s = .next (done s (lost 3#8))) ∧
    (d.configured = true → d.running = false → exec (moveAsync h 0#32 cb) s = .next (done s (lost 6#8)))

/-- R190, R206: a beat is enabled exactly when the channel is armed and the queue has room, appends the control word
as it is now, counts down, and with the last one disarms the channel and sets its flag; a pulse takes the head word of
a queue that is not empty and logs it; each changes nothing else. Nothing is said of what a beat does at count 0 (log
21). -/
def Obligations.BeatAndPulseMoveOneWord : Prop :=
  (∀ (s : State) (c : Nat),
    let x := s.xferOf c
    let p := (s.device x.slot).pgChan
    (beatStep c s = none ↔ x.active = false ∨ s.cfg.qDepth ≤ (s.queue p).length) ∧
    (x.active = true → x.count ≠ 0#32 → (s.queue p).length < s.cfg.qDepth →
      beatStep c s = some { s with
        pgq := s.pgq.set p (s.queue p ++ [(s.device x.slot).command])
        xfer := s.xfer.set c ⟨x.count - 1#32, decide (x.count ≠ 1#32), x.slot⟩
        irqFlags := if x.count = 1#32 then s.irqFlags ||| BitVec.ofNat 32 (2 ^ c) else s.irqFlags })) ∧
  ∀ (s : State) (p : Nat),
    (s.queue p = [] → pulseStep p s = none) ∧
    ∀ (w : Word) (rest : List Word), s.queue p = w :: rest →
      pulseStep p s = some { s with pgq := s.pgq.set p rest, pulseLog := s.pulseLog.set p (s.log p ++ [w]) }

/-- R191: an armed transfer of n beats, its pulses consumed as they come and no setter in between, emits exactly n
times the device's control word, then has its flag set, is disarmed, and leaves `running` to the dispatcher. A claim
about motion is made of runs that are not faulted (60_exceptions.md R271). -/
def Obligations.BurstEmitsExactlyItsSteps : Prop :=
  ∀ (s : State) (c n : Nat), Inv s → ¬Faulted s → (s.xferOf c).active = true → (s.xferOf c).count = BitVec.ofNat 32 n →
    1 ≤ n → n < 2 ^ 32 →
    let i := (s.xferOf c).slot
    let p := (s.device i).pgChan
    s.queue p = [] → s.schedule = (List.replicate n [Agent.burst c, Agent.pulseGen p]).flatten →
    ∃ t, Sys2Proof.core.run (2 * n) s = .next t ∧
      t.log p = s.log p ++ List.replicate n (s.device i).command ∧ t.queue p = [] ∧
      t.irqFlags.getLsbD c = true ∧ (t.xferOf c).active = false ∧ (t.xferOf c).count = 0#32 ∧
      t.dev = s.dev ∧ (t.device i).running = true ∧ ¬Faulted t

/-- 20_memory.md R82: a SET_DELAY in flight reaches the very next beat and no word already queued. -/
def Obligations.LiveUpdateReachesNextBeat : Prop :=
  ∀ (s : State) (c : Nat) (h : Byte) (v : Word), Inv s → Claimed s h → (s.xferOf c).active = true →
    (s.xferOf c).slot = h.toNat → v.toNat < 2 ^ 30 →
    let d := s.device h.toNat
    (s.queue d.pgChan).length < s.cfg.qDepth →
    ∃ t u, exec (.setDelay h v) s = .next t ∧ t.queue d.pgChan = s.queue d.pgChan ∧ beatStep c t = some u ∧
      u.queue d.pgChan = s.queue d.pgChan ++ [controlWord (clamped s v.toNat) d.direction d.enabled]

/-- R192: MOVE_BLOCK's checks in their order, each a complete no-op, and its acceptance. -/
def Obligations.MoveBlockChecksThenStarts : Prop :=
  ∀ (s : State) (h : Byte) (dir : Bool) (steps start delta : Word), Claimed s h →
    let d := s.device h.toNat
    (d.configured = false → exec (.moveBlock h dir steps start delta) s = .next (done s (lost 5#8))) ∧
    (d.configured = true → d.running = true →
      exec (.moveBlock h dir steps start delta) s = .next (done s (lost 3#8))) ∧
    (d.configured = true → d.running = false → 2 ^ 30 ≤ start.toNat →
      exec (.moveBlock h dir steps start delta) s = .next (done s (lost 4#8))) ∧
    (d.configured = true → d.running = false → start.toNat < 2 ^ 30 →
      exec (.moveBlock h dir steps start delta) s =
        .next (started (withDev s h.toNat { d with running := true })
          (.block h.toNat steps.toNat start.toNat dir delta.toInt)))

/-- R193, R194, R195: MOVE_BLOCK's sequencer steps: one push and the increment; the range fault; the end of the words;
the drain, which clears `running` and returns the result to come. -/
def Obligations.MoveBlockSequencerSteps : Prop :=
  (∀ (s : State) (i k : Nat) (v delta : Int) (dir : Bool), s.seq = .block i (k + 1) v dir delta →
    0 ≤ v → v < 2 ^ 30 →
    let p := (s.device i).pgChan
    (s.cfg.qDepth ≤ (s.queue p).length → sequencerStep s = none) ∧
    ((s.queue p).length < s.cfg.qDepth →
      sequencerStep s = some { s with
        pgq := s.pgq.set p (s.queue p ++
          [controlWord (BitVec.ofNat 32 v.toNat) (Bool.xor dir s.cfg.dirPol) (s.device i).enabled])
        seq := .block i k (v + delta) dir delta })) ∧
  (∀ (s : State) (i k : Nat) (v delta : Int) (dir : Bool), s.seq = .block i (k + 1) v dir delta →
    v < 0 ∨ 2 ^ 30 ≤ v →
    sequencerStep s = some { s with fault := s.fault ||| 8#32, seq := .blockDrain i (lost 4#8) }) ∧
  (∀ (s : State) (i : Nat) (v delta : Int) (dir : Bool), s.seq = .block i 0 v dir delta →
    sequencerStep s = some { s with seq := .blockDrain i (won 0#32 0#32) }) ∧
  ∀ (s : State) (i : Nat) (r : Result), s.seq = .blockDrain i r →
    (s.queue (s.device i).pgChan ≠ [] → sequencerStep s = none) ∧
    (s.queue (s.device i).pgChan = [] →
      sequencerStep s = some (finished (withDev s i { s.device i with running := false }) r))

/-- R193, R195: a whole MOVE_BLOCK whose ramp stays in range, its pulses consumed as they come: the k-th word carries
`start_delay + (k − 1)·delay_step`, and the command returns ok with the device idle and the run not faulted (R271 of
60_exceptions.md). -/
def Obligations.MoveBlockStreamsTheLinearRamp : Prop :=
  ∀ (s : State) (i n : Nat) (v delta : Int) (dir : Bool), Inv s → ¬Faulted s → (s.device i).inUse = true →
    s.seq = .block i n v dir delta → (∀ k < n, 0 ≤ v + k * delta ∧ v + k * delta < 2 ^ 30) →
    let p := (s.device i).pgChan
    s.queue p = [] →
    s.schedule =
      (List.replicate n [Agent.sequencer, Agent.pulseGen p]).flatten ++ [Agent.sequencer, Agent.sequencer] →
    ∃ t, Sys2Proof.core.run (2 * n + 2) s = .next t ∧
      t.log p = s.log p ++ (List.range n).map (fun k => controlWord (BitVec.ofNat 32 (v + k * delta).toNat)
        (Bool.xor dir s.cfg.dirPol) (s.device i).enabled) ∧
      t.seq = .idle ∧ t.cmdBusy = false ∧ t.result = won 0#32 0#32 ∧ (t.device i).running = false ∧
      t.irqFlags = s.irqFlags ∧ ¬Faulted t

/-- R196, R197: WAIT_IDLE starts waiting; a wait state's one step is enabled exactly when its condition holds. -/
def Obligations.WaitsHaveOneWayOut : Prop :=
  (∀ (s : State) (h : Byte), Claimed s h → exec (.waitIdle h) s = .next (started s (.waitIdle h.toNat))) ∧
  (∀ (s : State) (i : Nat), s.seq = .waitIdle i →
    ((s.device i).running = true → sequencerStep s = none) ∧
    ((s.device i).running = false → sequencerStep s = some (finished s (won 0#32 0#32)))) ∧
  (∀ (s : State) (i k rem half : Nat) (ph : Phase), s.seq = .toWait i ph k rem half →
    ((s.device i).running = true → sequencerStep s = none) ∧
    ((s.device i).running = false → sequencerStep s = some { s with seq := .to i ph k rem half })) ∧
  ∀ (s : State) (ctx : MultiCtx) (ph : Phase) (k j : Nat) (set : List Nat), s.seq = .multiWait ctx ph k j set →
    (sequencerStep s = none ↔ ∃ i ∈ set, (s.device i).running = true) ∧
    ∀ t, sequencerStep s = some t → t = { s with seq := t.seq } ∧
      (j < ctx.axes.length → t.seq = .multi ctx ph k j []) ∧
      (ctx.axes.length ≤ j → ph ≠ .remainder → t.seq = .multi ctx ph (k - 1) 0 []) ∧
      (ctx.axes.length ≤ j → ph = .remainder → t.seq = .multi ctx .remainder 0 ctx.axes.length [])

/-! ## The ramp -/

/-- R216, R217: the ramp callback on an existing slot: no-op without a direction or an acceleration; decelerating, one
coast unwound, or one delay popped and applied, or the fault; accelerating under the exact rates, a coast at the cap,
or a push and the new delay, or, on a full finite stack (42_ramp_stack.md R171), nothing stored, `F_STACK_OVF` and the new
delay; or the fault of an unset cap. Each case changes nothing else. The value of a coast counter that overflows is free
(log 11). -/
def Obligations.RampCallbackCases : Prop :=
  ∀ (s : State) (i : Nat), s.cfg.ok = true → i < s.dev.length →
    let d := s.device i
    ((d.accelDir = .coast ∨ d.movAccNum = 0#64) → accelCallback i s = s) ∧
    (d.movAccNum ≠ 0#64 → d.accelDir = .down →
      (d.coastingSlices ≠ 0#32 →
        accelCallback i s = withDev s i { d with coastingSlices := d.coastingSlices - 1#32 }) ∧
      (d.coastingSlices = 0#32 → ∀ (l : List Word) (r : Word), d.stack = l ++ [r] → r.toNat < 2 ^ 30 →
        accelCallback i s = withDev s i (delayed s { d with stack := l } r.toNat)) ∧
      (d.coastingSlices = 0#32 → d.stack = [] → accelCallback i s = { s with fault := s.fault ||| 2#32 })) ∧
    (d.movAccNum ≠ 0#64 → d.accelDir = .up →
      (d.maxSpeed = none → accelCallback i s = { s with fault := s.fault ||| 4#32 }) ∧
      ∀ m : Word, d.maxSpeed = some m → s.cfg.numerics = .exact → 1 ≤ d.movAccDen.toNat → d.delay.toNat < 2 ^ 30 →
        s.cfg.s2d ⟨m.toNat, 1⟩ < 2 ^ 30 →
        let cap := s.cfg.s2d ⟨m.toNat, 1⟩
        (rampTarget s d ≤ cap → d.coastingSlices ≠ 0xFFFFFFFF#32 →
          accelCallback i s =
            withDev s i (delayed s { d with coastingSlices := d.coastingSlices + 1#32 } cap)) ∧
        (rampTarget s d ≤ cap → d.coastingSlices = 0xFFFFFFFF#32 →
          ∃ w : Word, accelCallback i s =
            { withDev s i (delayed s { d with coastingSlices := w } cap) with freeIx := s.freeIx + 1 }) ∧
        ((cap : Int) < rampTarget s d → (∀ n ∈ s.cfg.stackDepth, d.stack.length < n) →
          accelCallback i s =
            withDev s i (delayed s { d with stack := d.stack ++ [d.delay] } (rampTarget s d).toNat)) ∧
        ((cap : Int) < rampTarget s d → (∃ n ∈ s.cfg.stackDepth, n ≤ d.stack.length) →
          accelCallback i s =
            { withDev s i (delayed s d (rampTarget s d).toNat) with fault := s.fault ||| 1#32 }))

/-- R218 (a), R219: under the exact rates the accelerating delay is the closed form, it falls strictly below a delay
above 0, and it stalls only at 0. -/
def Obligations.ExactRampNeverStallsAboveZero : Prop :=
  ∀ (c : Cfg) (d p q : Nat), c.ok = true → c.numerics = .exact → 0 < p → 0 < q →
    let K := 10 * c.maxRate
    let D := d + 10
    let next := c.s2d (c.project (c.d2s d) ⟨p, q⟩)
    next = (K * K * D * q) / (K * K * q + p * c.numSteps * D * D) - 10 ∧ (0 < d → next < d) ∧ (d = 0 → next = 0)

/-- R220, the mirror law: from a clean start, h accelerating ramp callbacks push for a while and then coast; h
decelerating ones unwind the coasts and then pop what was pushed, in reverse order, empty the stack and the coast
counter without a fault, and bring the delay back to where it began if anything was pushed. Premises: the exact rates,
an unbounded stack, MINDELAY not above the cap (U26). -/
def Obligations.DecelerationMirrorsAcceleration : Prop :=
  ∀ (s : State) (i h : Nat) (m : Word), s.cfg.ok = true → ¬Faulted s → i < s.dev.length → s.cfg.numerics = .exact →
    s.cfg.stackDepth = none → h < 2 ^ 32 → DelayInRange s.cfg (s.device i).delay →
    CommandCurrent (s.device i) → (s.device i).stack = [] → (s.device i).coastingSlices = 0#32 →
    (s.device i).accelDir = .up → (s.device i).movAccNum ≠ 0#64 → 1 ≤ (s.device i).movAccDen.toNat →
    (s.device i).maxSpeed = some m → s.cfg.minDelay ≤ s.cfg.s2d ⟨m.toNat, 1⟩ →
    s.cfg.s2d ⟨m.toNat, 1⟩ < 2 ^ 30 →
    let up := fun k => (iterate (accelCallback i) k s).device i
    let pushed := (up h).stack
    let turned := withDev (iterate (accelCallback i) h s) i { up h with accelDir := .down }
    let down := fun k => (iterate (accelCallback i) k turned).device i
    (∀ k ≤ h, (up k).stack = pushed.take k ∧ (up k).stack.length + (up k).coastingSlices.toNat = k) ∧
    (∀ k ≤ h - pushed.length, (down k).stack = pushed ∧ (down k).coastingSlices.toNat + k = h - pushed.length) ∧
    (∀ k < pushed.length, (down (h - pushed.length + k + 1)).delay = pushed.reverse.getD k 0#32) ∧
    (down h).stack = [] ∧ (down h).coastingSlices = 0#32 ∧
    ¬Faulted (iterate (accelCallback i) h turned) ∧
    (pushed ≠ [] →
      pushed.head? = some (s.device i).delay ∧ (down h).delay = (s.device i).delay ∧
      (down h).command = (s.device i).command)

/-- R221, R222: MOVE_TO's checks in their order, each a complete no-op, and its prologue, with every field it writes
and none it does not. -/
def Obligations.MoveToChecksThenStarts : Prop :=
  ∀ (s : State) (h : Byte) (target : Word), Claimed s h →
    let d := s.device h.toNat
    ((d.configured = false ∨ d.minSpeed = none ∨ d.maxSpeed = none) →
      exec (.moveTo h target) s = .next (done s (lost 5#8))) ∧
    (d.configured = true → d.minSpeed ≠ none → d.maxSpeed ≠ none → d.running = true →
      exec (.moveTo h target) s = .next (done s (lost 3#8))) ∧
    ∀ m : Word, d.configured = true → d.minSpeed = some m → d.maxSpeed ≠ none → d.running = false →
      s.cfg.s2d ⟨m.toNat, 1⟩ < 2 ^ 30 →
      let dir := Bool.xor (decide (d.position.toInt < target.toInt)) s.cfg.dirPol
      let delay := clamped s (s.cfg.s2d ⟨m.toNat, 1⟩)
      let steps := (target.toInt - d.position.toInt).natAbs
      let half := steps / s.cfg.numSteps / 2
      exec (.moveTo h target) s = .next (started (withDev s h.toNat
        { d with
          position := target
          delay := delay
          coastingSlices := 0#32
          movAccNum := BitVec.ofNat 64 d.acceleration.toNat
          movAccDen := 1#32
          direction := dir
          command := controlWord delay dir d.enabled
          accelDir := .up
          stack := [] }) (.to h.toNat .accel half (steps % s.cfg.numSteps) half))

/-- R224, R225, R226: MOVE_TO's sequencer steps, phase by phase, on a device that is configured and idle; and the step
of a ramp burst or of the remainder whose dispatch is refused, which sets `F_SEQ_DISPATCH` and goes on to its wait (R189,
70_reset_and_hazards.md R308). What a burst of 2^32 steps or more arms, of which no accepted move dispatches one, is log
23's. -/
def Obligations.MoveToSequencerSteps : Prop :=
  (∀ (s : State) (i k rem half : Nat) (ph : Phase), s.seq = .to i ph (k + 1) rem half → ph ≠ .remainder →
    let d := s.device i
    (d.configured = true → d.running = false → 1 ≤ s.cfg.numSteps →
      sequencerStep s = some { s with
        dev := s.dev.set i { d with callback := .ramp, running := true }
        xfer := s.xfer.set d.ccChan ⟨BitVec.ofNat 32 s.cfg.numSteps, true, i⟩
        seq := .toWait i ph k rem half }) ∧
    (d.configured = false ∨ d.running = true →
      sequencerStep s = some { s with fault := s.fault ||| 16#32, seq := .toWait i ph k rem half })) ∧
  (∀ (s : State) (i rem half : Nat), s.seq = .to i .accel 0 rem half →
    sequencerStep s = some { s with seq := .to i .remainder 0 rem half }) ∧
  (∀ (s : State) (i rem half : Nat), s.seq = .to i .remainder 0 (rem + 1) half →
    let d := s.device i
    (d.configured = true → d.running = false →
      sequencerStep s = some { s with
        dev := s.dev.set i { d with callback := .none, running := true }
        xfer := s.xfer.set d.ccChan ⟨BitVec.ofNat 32 (rem + 1), true, i⟩
        seq := .toWait i .remainder 0 0 half }) ∧
    (d.configured = false ∨ d.running = true →
      sequencerStep s = some { s with fault := s.fault ||| 16#32, seq := .toWait i .remainder 0 0 half })) ∧
  (∀ (s : State) (i half : Nat), s.seq = .to i .remainder 0 0 half →
    sequencerStep s = some { s with
      dev := s.dev.set i { s.device i with accelDir := .down }
      seq := .to i .decel half 0 half }) ∧
  ∀ (s : State) (i rem half : Nat), s.seq = .to i .decel 0 rem half →
    sequencerStep s = some (finished s (won 0#32 0#32))

/-- R227: what an undisturbed MOVE_TO dispatches: `half` ramp bursts of NUMSTEPS, the remainder if any, `half` ramp
bursts again, and ok; in all `steps`, less NUMSTEPS when the slice count is odd. -/
def Obligations.MoveToDispatchesItsBursts : Prop :=
  ∀ (s : State) (i steps : Nat), s.cfg.ok = true → ¬Faulted s → (s.device i).inUse = true → (s.device i).configured = true →
    (s.device i).running = false → (s.device i).ccChan < s.xfer.length → steps < 2 ^ 32 →
    let half := steps / s.cfg.numSteps / 2
    let rem := steps % s.cfg.numSteps
    s.seq = .to i .accel half rem half →
    let out := soloBursts i (6 * half + 8) s
    out.1 = List.replicate half (s.cfg.numSteps, Callback.ramp) ++ (if rem = 0 then [] else [(rem, Callback.none)]) ++
      List.replicate half (s.cfg.numSteps, Callback.ramp) ∧
    out.2.seq = .idle ∧ out.2.result = won 0#32 0#32 ∧ out.2.cmdBusy = false ∧ ¬Faulted out.2 ∧
    (out.1.map Prod.fst).sum =
      (if steps / s.cfg.numSteps % 2 = 0 then steps else steps - s.cfg.numSteps)

/-! ## Multi-axis -/

/-- R241, R242: MOVE_MULTI's checks in their order, each a complete no-op, and the move with nothing to do. -/
def Obligations.MoveMultiChecksInOrder : Prop :=
  ∀ (s : State) (q : Bool) (axes : List (Byte × Word)),
    let dev := fun a : Byte × Word => s.device a.1.toNat
    (s.cfg.nDev < axes.length → exec (.moveMulti q axes) s = .next (done s (lost 6#8))) ∧
    (axes.length ≤ s.cfg.nDev → (∃ a ∈ axes, ¬Claimed s a.1) →
      exec (.moveMulti q axes) s = .next (done s (lost 2#8))) ∧
    (axes.length ≤ s.cfg.nDev → (∀ a ∈ axes, Claimed s a.1) →
      (¬(axes.map Prod.fst).Nodup → exec (.moveMulti q axes) s = .next (done s (lost 6#8))) ∧
      ((axes.map Prod.fst).Nodup → (∀ a ∈ axes, a.2 = (dev a).position) →
        exec (.moveMulti q axes) s = .next (done s (won 0#32 0#32))) ∧
      ((axes.map Prod.fst).Nodup → (∃ a ∈ axes, a.2 ≠ (dev a).position) →
        ((∃ a ∈ axes, (dev a).configured = false ∨ (dev a).minSpeed = none ∨ (dev a).maxSpeed = none) →
          exec (.moveMulti q axes) s = .next (done s (lost 5#8))) ∧
        ((∀ a ∈ axes, (dev a).configured = true ∧ (dev a).minSpeed ≠ none ∧ (dev a).maxSpeed ≠ none) →
          (∃ a ∈ axes, (dev a).running = true) →
          exec (.moveMulti q axes) s = .next (done s (lost 3#8)))))

/-- R243 to R246: an accepted MOVE_MULTI's prologue: the context, every axis's fields, and nothing else. -/
def Obligations.MoveMultiStartsEveryAxis : Prop :=
  ∀ (s : State) (q : Bool) (axes : List (Byte × Word)), axes.length ≤ s.cfg.nDev →
    (∀ a ∈ axes, Claimed s a.1 ∧ (s.device a.1.toNat).configured = true ∧ (s.device a.1.toNat).running = false ∧
      (∃ m, (s.device a.1.toNat).minSpeed = some m ∧ s.cfg.rateDelay m < 2 ^ 30) ∧
      (s.device a.1.toNat).maxSpeed ≠ none) →
    (axes.map Prod.fst).Nodup → (∃ a ∈ axes, a.2 ≠ (s.device a.1.toNat).position) →
    ∃ t, exec (.moveMulti q axes) s = .next t ∧
      t = started { s with dev := t.dev } (.multi (multiContext s q axes) .accel (accelSteps s axes / 2) 0 []) ∧
      t.dev.length = s.dev.length ∧
      (∀ a ∈ axes, t.device a.1.toNat = axisBegun s (maxDist s axes) a.2 (s.device a.1.toNat)) ∧
      ∀ j, (∀ a ∈ axes, a.1.toNat ≠ j) → t.device j = s.device j

/-- R247 to R251: MOVE_MULTI's sequencer steps: dispatch and debit, or skip and credit; the remainder, or its guard; a
dispatch that is refused (43_step_engine.md R189, 70_reset_and_hazards.md R308); the turn of all axes; the end. Where the
sequencer goes next is `nextAxis` and `afterSlice`, and what they are, `sequential` or not, is said last (R247, R248).
That an axis that is skipped, or whose remainder is not dispatched, takes a step of its own, as does going on to the next
phase, is the model's choice (log 14, DEDUCED). -/
def Obligations.MoveMultiSequencerSteps : Prop :=
  (∀ (s : State) (ctx : MultiCtx) (ph : Phase) (k j : Nat) (set : List Nat) (a : Axis),
    s.seq = .multi ctx ph (k + 1) j set → ph ≠ .remainder → ctx.axes[j]? = some a →
    let d := s.device a.slot
    let credited := fun delta : Int =>
      { ctx with axes := ctx.axes.set j { a with remaining := a.remaining + delta } }
    let sentOn := nextAxis (credited (-(2 * a.per))) ph (k + 1) j set a.slot true
    (s.cfg.minSlice < a.per → d.configured = true → d.running = false →
      sequencerStep s = some { s with
        dev := s.dev.set a.slot { d with callback := .ramp, running := true }
        xfer := s.xfer.set d.ccChan ⟨BitVec.ofNat 32 a.per, true, a.slot⟩
        seq := sentOn }) ∧
    (s.cfg.minSlice < a.per → d.configured = false ∨ d.running = true →
      sequencerStep s = some { s with fault := s.fault ||| 16#32, seq := sentOn }) ∧
    (a.per ≤ s.cfg.minSlice →
      sequencerStep s = some { s with seq := nextAxis (credited (2 * a.per)) ph (k + 1) j set a.slot false })) ∧
  (∀ (s : State) (ctx : MultiCtx) (k j : Nat) (set : List Nat) (a : Axis),
    s.seq = .multi ctx .remainder k j set → ctx.axes[j]? = some a →
    let d := s.device a.slot
    let goesOn := nextAxis ctx .remainder k j set a.slot
    (a.remaining ≤ 0 → sequencerStep s = some { s with seq := goesOn false }) ∧
    (2 ^ 32 - 1 < a.remaining →
      sequencerStep s = some { s with fault := s.fault ||| 16#32, seq := goesOn false }) ∧
    (0 < a.remaining → a.remaining ≤ 2 ^ 32 - 1 →
      (d.configured = true → d.running = false →
        sequencerStep s = some { s with
          dev := s.dev.set a.slot { d with callback := .none, running := true }
          xfer := s.xfer.set d.ccChan ⟨BitVec.ofNat 32 a.remaining.toNat, true, a.slot⟩
          seq := goesOn true }) ∧
      (d.configured = false ∨ d.running = true →
        sequencerStep s = some { s with fault := s.fault ||| 16#32, seq := goesOn true }))) ∧
  (∀ (s : State) (ctx : MultiCtx) (k : Nat) (set : List Nat),
    s.seq = .multi ctx .remainder k ctx.axes.length set → (ctx.axes.map Axis.slot).Nodup →
    (∀ a ∈ ctx.axes, a.slot < s.dev.length) →
    ∃ t, sequencerStep s = some t ∧ t = { s with dev := t.dev, seq := .multi ctx .decel ctx.half 0 [] } ∧
      (∀ a ∈ ctx.axes, t.device a.slot = { s.device a.slot with accelDir := .down }) ∧
      ∀ i, (∀ a ∈ ctx.axes, a.slot ≠ i) → t.device i = s.device i) ∧
  (∀ (s : State) (ctx : MultiCtx) (j : Nat) (set : List Nat), s.seq = .multi ctx .accel 0 j set →
    sequencerStep s = some { s with seq := .multi ctx .remainder 0 0 [] }) ∧
  (∀ (s : State) (ctx : MultiCtx) (j : Nat) (set : List Nat), s.seq = .multi ctx .decel 0 j set →
    sequencerStep s = some (finished s (won 0#32 0#32))) ∧
  ∀ (ctx : MultiCtx) (ph : Phase) (k j : Nat) (set : List Nat) (slot : Nat) (sent : Bool),
    let q := nextAxis ctx ph k j set slot sent
    let set' := if sent then set ++ [slot] else set
    (ctx.sequential = true → sent = true → q = .multiWait ctx ph k (j + 1) [slot]) ∧
    (ctx.sequential = true → sent = false → j + 1 < ctx.axes.length → q = .multi ctx ph k (j + 1) []) ∧
    (ctx.sequential = true → sent = false → ctx.axes.length ≤ j + 1 → q = afterSlice ctx ph k) ∧
    (ctx.sequential = false → j + 1 < ctx.axes.length → q = .multi ctx ph k (j + 1) set') ∧
    (ctx.sequential = false → ctx.axes.length ≤ j + 1 → q = .multiWait ctx ph k (j + 1) set') ∧
    (ph ≠ .remainder → afterSlice ctx ph k = .multi ctx ph (k - 1) 0 []) ∧
    afterSlice ctx .remainder k = .multi ctx .remainder 0 ctx.axes.length []

/-- R243 to R245, and the arithmetic of R252 (a), (c), (d), as a fact of the context alone: the model's context is the
rules'; in it no axis goes further than the longest, an axis's two halves of ramp slices fit in its distance with the
rest of it between them, and without a ramp or a distance the slice count is 0. -/
def Obligations.MultiContextHalvesFitTheDistance : Prop :=
  ∀ (s : State) (q : Bool) (axes : List (Byte × Word)), s.cfg.ok = true →
    let ctx := s.multiCtx q (axisTargets axes)
    ctx = multiContext s q axes ∧
    ∀ a ∈ ctx.axes,
      a.dist ≤ ctx.mostSteps ∧ a.remaining = a.dist ∧
      2 * (ctx.half * a.per) ≤ a.dist ∧
      ctx.half * a.per + (a.dist - 2 * (ctx.half * a.per)) + ctx.half * a.per = a.dist ∧
      (ctx.accelerationSteps = 0 → a.per = 0) ∧ (a.dist = 0 → a.per = 0)

/-! ## Runs -/

/-- R191, R312: in every fair run with live pulse generators and no reset, whatever the host and the handlers do and
however long they go on, the flag of an armed transfer is eventually taken by a dispatch. -/
def Obligations.ArmedTransferIsDispatched : Prop :=
  ∀ (out : Outside) (run : Nat → State) (chosen : Nat → Agent),
    IsRun out run chosen → Fair out run chosen → PgLive out run chosen →
    (∀ n, chosen n ≠ .platformReset) → Inv (run 0) →
    ∀ n c, ((run n).xferOf c).active = true →
      ∃ m, n ≤ m ∧ chosen m = .dispatcher ∧ (run m).pending.getLsbD c = true ∧
        agentStep .dispatcher (out.supply m (run m)) = some (.next (run (m + 1)))

/-- R271, 44_accel_controller.md R217, R223: every step keeps, with the invariant, `F_UNSET` and `F_UNMAPPED` clear and
the maximum speed of every accelerating device set; so from reset, whatever the outside does, neither fault is ever
set. -/
def Obligations.UnsetAndUnmappedFaultsAreUnreachable : Prop :=
  (∀ s t : State, Inv s → CapsSet s → step s = .next t → Inv t ∧ CapsSet t) ∧
  ∀ (c : Cfg) (s : State), c.ok = true → Reachable c s → CapsSet s

/-! ## Completion, handlers, window -/

/-- R274 to R277, R84: DISPATCH is enabled exactly when the line is asserted; it takes the enabled flags and clears just
those; it serves their channels in ascending order, each by clearing `running` of the mapped device and then running
its callback, or by `F_UNMAPPED`. That a handler is the head of a list of answers held in the state, which it uses up, and
does nothing where none is left, is the model's choice (log 6, DESIGN CHOICE) of the oracle of R279. -/
def Obligations.DispatchServesFlagsAscending : Prop :=
  (∀ s : State, (dispatchStep s = none ↔ s.irqFlags &&& s.irqEnable = 0#32)) ∧
  (∀ (s : State) (l : List Nat), s.irqFlags &&& s.irqEnable ≠ 0#32 → l.Pairwise (· < ·) →
    (∀ c, c ∈ l ↔ c < s.cfg.nCC ∧ s.irqFlags.getLsbD c = true ∧ s.irqEnable.getLsbD c = true) →
    dispatchStep s = some (l.foldl completeChannel { s with irqFlags := s.irqFlags &&& ~~~s.irqEnable })) ∧
  ∀ (s : State) (c : Nat),
    (s.slotOf c = none → completeChannel s c = { s with fault := s.fault ||| 32#32 }) ∧
    ∀ i, s.slotOf c = some i → i < s.dev.length →
      let idle := withDev s i { s.device i with running := false }
      ((s.device i).callback = .none → completeChannel s c = idle) ∧
      ((s.device i).callback = .ramp → completeChannel s c = accelCallback i idle) ∧
      ∀ tag, (s.device i).callback = .user tag →
        completeChannel s c = (s.handlers.headD []).foldl handlerStep
          { idle with handlerLog := s.handlerLog ++ [.call tag i], handlers := s.handlers.tail }

/-- R280: a whole dispatch, its callbacks and handler commands included, leaves the sequencer, the port, the result
registers, the queues, the logs and the configuration as they were, and sets no completion flag. -/
def Obligations.DispatchLeavesThePortAlone : Prop :=
  ∀ s t : State, dispatchStep s = some t →
    t.seq = s.seq ∧ t.cmdBusy = s.cmdBusy ∧ t.result = s.result ∧ t.cmdBuf = s.cmdBuf ∧ t.pgq = s.pgq ∧
    t.pulseLog = s.pulseLog ∧ t.cfg = s.cfg ∧ t.hostLog = s.hostLog ∧
    t.irqFlags = s.irqFlags &&& ~~~s.irqEnable

/-- 30_encoding.md R95, 60_exceptions.md R279: in handler context a macro command fails with `IllegalCommand` and
changes nothing; a simple command has the effect and the result it has in thread context, but for the port and the
result registers, which it does not touch. -/
def Obligations.HandlerContextRunsSimpleCommands : Prop :=
  (∀ (i : Instr) (s : State), i.isMacro = true → handlerCommand i s = (s, lost 7#8)) ∧
  ∀ (i : Instr) (s : State), i.isMacro = false →
    exec i s = .next (done (handlerCommand i s).1 (handlerCommand i s).2) ∧
    (handlerCommand i s).1.cmdBusy = s.cmdBusy ∧ (handlerCommand i s).1.seq = s.seq ∧
    (handlerCommand i s).1.result = s.result

/-- 20_memory.md R75, R77, U12, U19, U24: what each access of the host returns and does. The model's choices: an access
outside the window or not an aligned word has the reply `rejected` (log 8, DESIGN CHOICE); the word of a write to a busy
`CMD` is not kept (log 9, DEDUCED); the words of a descriptor not yet whole are kept (log 20, DEDUCED). -/
def Obligations.HostWindowAccesses : Prop :=
  ∀ (s : State) (w : Word),
    let b := s.cfg.base
    let sees := fun r : HostReply => Host.Outcome.next (φ := Fault) (ρ := Refusal) { s with hostLog := s.hostLog ++ [r] }
    hostAccess (.read b 4) s = sees (.data 0#32) ∧
    hostAccess (.read (b + 0x04) 4) s = sees (.data (BitVec.ofNat 32 s.result.err.toNat)) ∧
    hostAccess (.read (b + 0x08) 4) s = sees (.data s.result.value) ∧
    hostAccess (.read (b + 0x0C) 4) s = sees (.data s.result.value2) ∧
    hostAccess (.read (b + 0x10) 4) s =
      sees (.data (BitVec.ofNat 32 (s.cmdBusy.toNat + 2 * (decide (s.irqFlags &&& s.irqEnable ≠ 0#32)).toNat))) ∧
    hostAccess (.read (b + 0x14) 4) s = sees (.data s.irqFlags) ∧
    hostAccess (.read (b + 0x18) 4) s = sees (.data s.irqEnable) ∧
    hostAccess (.read (b + 0x1C) 4) s = sees (.data s.fault) ∧
    (∀ k, 1 ≤ k → k ≤ 7 → hostAccess (.write (b + 4 * k) 4 w) s = sees .ignored) ∧
    (s.cmdBusy = true → hostAccess (.write b 4 w) s = sees .ignored) ∧
    (s.cmdBusy = false → decode (s.cmdBuf ++ [w]) = none →
      hostAccess (.write b 4 w) s =
        .next { s with hostLog := s.hostLog ++ [.taken], cmdBuf := s.cmdBuf ++ [w] }) ∧
    ∀ addr size, (size ≠ 4 ∨ addr < b ∨ b + 0x1C < addr ∨ (addr - b) % 4 ≠ 0) →
      hostAccess (.read addr size) s = sees .rejected ∧ hostAccess (.write addr size w) s = sees .rejected

/-! ## What a MOVE_MULTI dispatches -/

/-- R252 (a) to (d): what an accepted MOVE_MULTI that nothing disturbs dispatches on each axis, in either mode: above
the threshold `half` ramp bursts of its slice count, the rest of its distance, and `half` ramp bursts again, in all its
distance; at or below it one burst of its distance with the credits, or, where that does not fit 32 bits, the guard's
fault and no burst (R249); and it returns ok, not faulted where every axis's burst fits. The number of turns it is given
counts a step for each skipped axis (log 14). -/
def Obligations.MoveMultiDispatchesItsBursts : Prop :=
  ∀ (s : State) (q : Bool) (axes : List (Byte × Word)), Inv s → ¬Faulted s → axes.length ≤ s.cfg.nDev →
    (∀ a ∈ axes, Claimed s a.1 ∧ (s.device a.1.toNat).configured = true ∧ (s.device a.1.toNat).running = false ∧
      (s.device a.1.toNat).minSpeed ≠ none ∧ (s.device a.1.toNat).maxSpeed ≠ none) →
    (axes.map Prod.fst).Nodup → (∃ a ∈ axes, a.2 ≠ (s.device a.1.toNat).position) →
    let half := accelSteps s axes / 2
    let dist := fun a : Byte × Word => (a.2.toInt - (s.device a.1.toNat).position.toInt).natAbs
    let per := fun a => if accelSteps s axes = 0 then 0 else dist a / accelSteps s axes
    let tooWide := fun a => per a ≤ s.cfg.minSlice ∧ 2 ^ 32 ≤ dist a + 2 * half * per a
    ∃ t, exec (.moveMulti q axes) s = .next t ∧
      ∀ a ∈ axes,
        let out := joinedBursts a.1.toNat ((2 * half + 1) * (3 * axes.length + 3) + 4) t
        (s.cfg.minSlice < per a →
          out.1 = List.replicate half (per a, Callback.ramp) ++ oneBurst (dist a - 2 * half * per a) ++
            List.replicate half (per a, Callback.ramp) ∧
          (out.1.map Prod.fst).sum = dist a) ∧
        (per a ≤ s.cfg.minSlice → ¬tooWide a → out.1 = oneBurst (dist a + 2 * half * per a)) ∧
        (tooWide a → out.1 = [] ∧ out.2.fault &&& 16#32 = 16#32) ∧
        ((∀ b ∈ axes, ¬tooWide b) → ¬Faulted out.2) ∧
        out.2.seq = .idle ∧ out.2.result = won 0#32 0#32 ∧ out.2.cmdBusy = false
end

