-- ==== Sys2Proof/Laws/Decode.lean ====
section
/-! SUPPORT. The bytes of a word read back from a word built of them (30_encoding.md R93), and what a whole
descriptor decodes to. -/

namespace Sys2Proof

@[simp] theorem opField_wordOfFields (b0 b1 b2 b3 : Byte) : opField (wordOfFields b0 b1 b2 b3) = b0 := by
  ext i hi
  simp [opField, wordOfFields, hi]
  grind

@[simp] theorem devField_wordOfFields (b0 b1 b2 b3 : Byte) : devField (wordOfFields b0 b1 b2 b3) = b1 := by
  ext i hi
  simp [devField, wordOfFields, hi]
  grind

@[simp] theorem auxField_wordOfFields (b0 b1 b2 b3 : Byte) : auxField (wordOfFields b0 b1 b2 b3) = b2 := by
  ext i hi
  simp [auxField, wordOfFields, hi]
  grind

@[simp] theorem tagField_wordOfFields (b0 b1 b2 b3 : Byte) : tagField (wordOfFields b0 b1 b2 b3) = b3 := by
  ext i hi
  simp [tagField, wordOfFields, hi]
  grind

/-- A word is the word of its four bytes. -/
@[simp] theorem wordOfFields_fields (w : Word) :
    wordOfFields (opField w) (devField w) (auxField w) (tagField w) = w := by
  ext i hi
  simp [opField, devField, auxField, tagField, wordOfFields, hi]
  grind

@[simp] theorem low_byte_wordOfFields (b0 b1 b2 b3 : Byte) :
    (wordOfFields b0 b1 b2 b3).extractLsb' 0 8 = b0 := opField_wordOfFields b0 b1 b2 b3

@[simp] theorem second_byte_wordOfFields (b0 b1 b2 b3 : Byte) :
    (wordOfFields b0 b1 b2 b3).extractLsb' 8 8 = b1 := devField_wordOfFields b0 b1 b2 b3

/-- The reserved half of CONFIG2's first argument word. -/
@[simp] theorem high_half_wordOfFields (b0 b1 : Byte) :
    (wordOfFields b0 b1 0#8 0#8).extractLsb' 16 16 = 0#16 := by
  ext i hi
  simp [wordOfFields]
  grind

/-- The reserved bits of a word that carries one byte. -/
@[simp] theorem high_bytes_wordOfFields (b0 : Byte) :
    (wordOfFields b0 0#8 0#8 0#8).extractLsb' 8 24 = 0#24 := by
  ext i hi
  simp [wordOfFields]

@[simp] theorem opField_headerOf (op dev aux tag : Byte) : opField (headerOf op dev aux tag) = op :=
  opField_wordOfFields op dev aux tag

@[simp] theorem devField_headerOf (op dev aux tag : Byte) : devField (headerOf op dev aux tag) = dev :=
  devField_wordOfFields op dev aux tag

@[simp] theorem auxField_headerOf (op dev aux tag : Byte) : auxField (headerOf op dev aux tag) = aux :=
  auxField_wordOfFields op dev aux tag

@[simp] theorem tagField_headerOf (op dev aux tag : Byte) : tagField (headerOf op dev aux tag) = tag :=
  tagField_wordOfFields op dev aux tag

/-- A one-bit operand uses no reserved bit of `aux`. -/
@[simp] theorem auxOfBool_reserved (b : Bool) : auxOfBool b &&& 0xFE#8 = 0#8 := by cases b <;> rfl

/-- A one-bit operand read back (R96). -/
@[simp] theorem auxOfBool_bit (b : Bool) : (auxOfBool b).getLsbD 0 = b := by cases b <;> rfl

/-- What a whole descriptor decodes to, told by the row its header names (R99, R100). -/
theorem decode_of_op {h : Word} {op : Op} {args rest : List Word} (hop : opOf h = some op)
    (hlen : args.length = argCount op h) :
    decode (h :: (args ++ rest)) =
      some (match assemble op h args with | some i => .command i | none => .badArgument, rest) := by
  simp only [decode, hop, List.length_append, ← hlen]
  rw [if_neg (by omega), List.take_left, List.drop_left]
  cases assemble op h args <;> rfl

end Sys2Proof
end

