-- ==== Sys2Proof/Laws/State.lean ====
section
/-! SUPPORT. The state's small lemmas: one per field per named update, and what a slot, a channel or a queue reads
after one of them is written. -/

namespace Sys2Proof.Machine

/-! ## setDevice -/

@[simp] theorem State.setDevice_cfg (s : State) (i : Nat) (d : Device) : (s.setDevice i d).cfg = s.cfg := rfl
@[simp] theorem State.setDevice_dev (s : State) (i : Nat) (d : Device) : (s.setDevice i d).dev = s.dev.set i d := rfl
@[simp] theorem State.setDevice_chanMap (s : State) (i : Nat) (d : Device) : (s.setDevice i d).chanMap = s.chanMap := rfl
@[simp] theorem State.setDevice_ccFree (s : State) (i : Nat) (d : Device) : (s.setDevice i d).ccFree = s.ccFree := rfl
@[simp] theorem State.setDevice_pgFree (s : State) (i : Nat) (d : Device) : (s.setDevice i d).pgFree = s.pgFree := rfl
@[simp] theorem State.setDevice_irqFlags (s : State) (i : Nat) (d : Device) : (s.setDevice i d).irqFlags = s.irqFlags := rfl
@[simp] theorem State.setDevice_irqEnable (s : State) (i : Nat) (d : Device) : (s.setDevice i d).irqEnable = s.irqEnable := rfl
@[simp] theorem State.setDevice_fault (s : State) (i : Nat) (d : Device) : (s.setDevice i d).fault = s.fault := rfl
@[simp] theorem State.setDevice_seq (s : State) (i : Nat) (d : Device) : (s.setDevice i d).seq = s.seq := rfl
@[simp] theorem State.setDevice_cmdBusy (s : State) (i : Nat) (d : Device) : (s.setDevice i d).cmdBusy = s.cmdBusy := rfl
@[simp] theorem State.setDevice_result (s : State) (i : Nat) (d : Device) : (s.setDevice i d).result = s.result := rfl
@[simp] theorem State.setDevice_cmdBuf (s : State) (i : Nat) (d : Device) : (s.setDevice i d).cmdBuf = s.cmdBuf := rfl
@[simp] theorem State.setDevice_xfer (s : State) (i : Nat) (d : Device) : (s.setDevice i d).xfer = s.xfer := rfl
@[simp] theorem State.setDevice_pgq (s : State) (i : Nat) (d : Device) : (s.setDevice i d).pgq = s.pgq := rfl
@[simp] theorem State.setDevice_pulseLog (s : State) (i : Nat) (d : Device) : (s.setDevice i d).pulseLog = s.pulseLog := rfl
@[simp] theorem State.setDevice_schedule (s : State) (i : Nat) (d : Device) : (s.setDevice i d).schedule = s.schedule := rfl
@[simp] theorem State.setDevice_hostOps (s : State) (i : Nat) (d : Device) : (s.setDevice i d).hostOps = s.hostOps := rfl
@[simp] theorem State.setDevice_hostLog (s : State) (i : Nat) (d : Device) : (s.setDevice i d).hostLog = s.hostLog := rfl
@[simp] theorem State.setDevice_handlers (s : State) (i : Nat) (d : Device) : (s.setDevice i d).handlers = s.handlers := rfl
@[simp] theorem State.setDevice_handlerLog (s : State) (i : Nat) (d : Device) : (s.setDevice i d).handlerLog = s.handlerLog := rfl
@[simp] theorem State.setDevice_freeIx (s : State) (i : Nat) (d : Device) : (s.setDevice i d).freeIx = s.freeIx := rfl

/-! ## modDevice -/

@[simp] theorem State.modDevice_cfg (s : State) (i : Nat) (f : Device → Device) : (s.modDevice i f).cfg = s.cfg := rfl
@[simp] theorem State.modDevice_dev (s : State) (i : Nat) (f : Device → Device) : (s.modDevice i f).dev = s.dev.set i (f (s.device i)) := rfl
@[simp] theorem State.modDevice_chanMap (s : State) (i : Nat) (f : Device → Device) : (s.modDevice i f).chanMap = s.chanMap := rfl
@[simp] theorem State.modDevice_ccFree (s : State) (i : Nat) (f : Device → Device) : (s.modDevice i f).ccFree = s.ccFree := rfl
@[simp] theorem State.modDevice_pgFree (s : State) (i : Nat) (f : Device → Device) : (s.modDevice i f).pgFree = s.pgFree := rfl
@[simp] theorem State.modDevice_irqFlags (s : State) (i : Nat) (f : Device → Device) : (s.modDevice i f).irqFlags = s.irqFlags := rfl
@[simp] theorem State.modDevice_irqEnable (s : State) (i : Nat) (f : Device → Device) : (s.modDevice i f).irqEnable = s.irqEnable := rfl
@[simp] theorem State.modDevice_fault (s : State) (i : Nat) (f : Device → Device) : (s.modDevice i f).fault = s.fault := rfl
@[simp] theorem State.modDevice_seq (s : State) (i : Nat) (f : Device → Device) : (s.modDevice i f).seq = s.seq := rfl
@[simp] theorem State.modDevice_cmdBusy (s : State) (i : Nat) (f : Device → Device) : (s.modDevice i f).cmdBusy = s.cmdBusy := rfl
@[simp] theorem State.modDevice_result (s : State) (i : Nat) (f : Device → Device) : (s.modDevice i f).result = s.result := rfl
@[simp] theorem State.modDevice_cmdBuf (s : State) (i : Nat) (f : Device → Device) : (s.modDevice i f).cmdBuf = s.cmdBuf := rfl
@[simp] theorem State.modDevice_xfer (s : State) (i : Nat) (f : Device → Device) : (s.modDevice i f).xfer = s.xfer := rfl
@[simp] theorem State.modDevice_pgq (s : State) (i : Nat) (f : Device → Device) : (s.modDevice i f).pgq = s.pgq := rfl
@[simp] theorem State.modDevice_pulseLog (s : State) (i : Nat) (f : Device → Device) : (s.modDevice i f).pulseLog = s.pulseLog := rfl
@[simp] theorem State.modDevice_schedule (s : State) (i : Nat) (f : Device → Device) : (s.modDevice i f).schedule = s.schedule := rfl
@[simp] theorem State.modDevice_hostOps (s : State) (i : Nat) (f : Device → Device) : (s.modDevice i f).hostOps = s.hostOps := rfl
@[simp] theorem State.modDevice_hostLog (s : State) (i : Nat) (f : Device → Device) : (s.modDevice i f).hostLog = s.hostLog := rfl
@[simp] theorem State.modDevice_handlers (s : State) (i : Nat) (f : Device → Device) : (s.modDevice i f).handlers = s.handlers := rfl
@[simp] theorem State.modDevice_handlerLog (s : State) (i : Nat) (f : Device → Device) : (s.modDevice i f).handlerLog = s.handlerLog := rfl
@[simp] theorem State.modDevice_freeIx (s : State) (i : Nat) (f : Device → Device) : (s.modDevice i f).freeIx = s.freeIx := rfl

/-! ## completeDevice -/

@[simp] theorem State.completeDevice_cfg (s : State) (i : Nat) : (s.completeDevice i).cfg = s.cfg := rfl
@[simp] theorem State.completeDevice_dev (s : State) (i : Nat) : (s.completeDevice i).dev = s.dev.set i { s.device i with running := false } := rfl
@[simp] theorem State.completeDevice_chanMap (s : State) (i : Nat) : (s.completeDevice i).chanMap = s.chanMap := rfl
@[simp] theorem State.completeDevice_ccFree (s : State) (i : Nat) : (s.completeDevice i).ccFree = s.ccFree := rfl
@[simp] theorem State.completeDevice_pgFree (s : State) (i : Nat) : (s.completeDevice i).pgFree = s.pgFree := rfl
@[simp] theorem State.completeDevice_irqFlags (s : State) (i : Nat) : (s.completeDevice i).irqFlags = s.irqFlags := rfl
@[simp] theorem State.completeDevice_irqEnable (s : State) (i : Nat) : (s.completeDevice i).irqEnable = s.irqEnable := rfl
@[simp] theorem State.completeDevice_fault (s : State) (i : Nat) : (s.completeDevice i).fault = s.fault := rfl
@[simp] theorem State.completeDevice_seq (s : State) (i : Nat) : (s.completeDevice i).seq = s.seq := rfl
@[simp] theorem State.completeDevice_cmdBusy (s : State) (i : Nat) : (s.completeDevice i).cmdBusy = s.cmdBusy := rfl
@[simp] theorem State.completeDevice_result (s : State) (i : Nat) : (s.completeDevice i).result = s.result := rfl
@[simp] theorem State.completeDevice_cmdBuf (s : State) (i : Nat) : (s.completeDevice i).cmdBuf = s.cmdBuf := rfl
@[simp] theorem State.completeDevice_xfer (s : State) (i : Nat) : (s.completeDevice i).xfer = s.xfer := rfl
@[simp] theorem State.completeDevice_pgq (s : State) (i : Nat) : (s.completeDevice i).pgq = s.pgq := rfl
@[simp] theorem State.completeDevice_pulseLog (s : State) (i : Nat) : (s.completeDevice i).pulseLog = s.pulseLog := rfl
@[simp] theorem State.completeDevice_schedule (s : State) (i : Nat) : (s.completeDevice i).schedule = s.schedule := rfl
@[simp] theorem State.completeDevice_hostOps (s : State) (i : Nat) : (s.completeDevice i).hostOps = s.hostOps := rfl
@[simp] theorem State.completeDevice_hostLog (s : State) (i : Nat) : (s.completeDevice i).hostLog = s.hostLog := rfl
@[simp] theorem State.completeDevice_handlers (s : State) (i : Nat) : (s.completeDevice i).handlers = s.handlers := rfl
@[simp] theorem State.completeDevice_handlerLog (s : State) (i : Nat) : (s.completeDevice i).handlerLog = s.handlerLog := rfl
@[simp] theorem State.completeDevice_freeIx (s : State) (i : Nat) : (s.completeDevice i).freeIx = s.freeIx := rfl

/-! ## clearStack -/

@[simp] theorem State.clearStack_cfg (s : State) (i : Nat) : (s.clearStack i).cfg = s.cfg := rfl
@[simp] theorem State.clearStack_dev (s : State) (i : Nat) : (s.clearStack i).dev = s.dev.set i { s.device i with stack := [] } := rfl
@[simp] theorem State.clearStack_chanMap (s : State) (i : Nat) : (s.clearStack i).chanMap = s.chanMap := rfl
@[simp] theorem State.clearStack_ccFree (s : State) (i : Nat) : (s.clearStack i).ccFree = s.ccFree := rfl
@[simp] theorem State.clearStack_pgFree (s : State) (i : Nat) : (s.clearStack i).pgFree = s.pgFree := rfl
@[simp] theorem State.clearStack_irqFlags (s : State) (i : Nat) : (s.clearStack i).irqFlags = s.irqFlags := rfl
@[simp] theorem State.clearStack_irqEnable (s : State) (i : Nat) : (s.clearStack i).irqEnable = s.irqEnable := rfl
@[simp] theorem State.clearStack_fault (s : State) (i : Nat) : (s.clearStack i).fault = s.fault := rfl
@[simp] theorem State.clearStack_seq (s : State) (i : Nat) : (s.clearStack i).seq = s.seq := rfl
@[simp] theorem State.clearStack_cmdBusy (s : State) (i : Nat) : (s.clearStack i).cmdBusy = s.cmdBusy := rfl
@[simp] theorem State.clearStack_result (s : State) (i : Nat) : (s.clearStack i).result = s.result := rfl
@[simp] theorem State.clearStack_cmdBuf (s : State) (i : Nat) : (s.clearStack i).cmdBuf = s.cmdBuf := rfl
@[simp] theorem State.clearStack_xfer (s : State) (i : Nat) : (s.clearStack i).xfer = s.xfer := rfl
@[simp] theorem State.clearStack_pgq (s : State) (i : Nat) : (s.clearStack i).pgq = s.pgq := rfl
@[simp] theorem State.clearStack_pulseLog (s : State) (i : Nat) : (s.clearStack i).pulseLog = s.pulseLog := rfl
@[simp] theorem State.clearStack_schedule (s : State) (i : Nat) : (s.clearStack i).schedule = s.schedule := rfl
@[simp] theorem State.clearStack_hostOps (s : State) (i : Nat) : (s.clearStack i).hostOps = s.hostOps := rfl
@[simp] theorem State.clearStack_hostLog (s : State) (i : Nat) : (s.clearStack i).hostLog = s.hostLog := rfl
@[simp] theorem State.clearStack_handlers (s : State) (i : Nat) : (s.clearStack i).handlers = s.handlers := rfl
@[simp] theorem State.clearStack_handlerLog (s : State) (i : Nat) : (s.clearStack i).handlerLog = s.handlerLog := rfl
@[simp] theorem State.clearStack_freeIx (s : State) (i : Nat) : (s.clearStack i).freeIx = s.freeIx := rfl

/-! ## setXfer -/

@[simp] theorem State.setXfer_cfg (s : State) (c : Nat) (x : Xfer) : (s.setXfer c x).cfg = s.cfg := rfl
@[simp] theorem State.setXfer_dev (s : State) (c : Nat) (x : Xfer) : (s.setXfer c x).dev = s.dev := rfl
@[simp] theorem State.setXfer_chanMap (s : State) (c : Nat) (x : Xfer) : (s.setXfer c x).chanMap = s.chanMap := rfl
@[simp] theorem State.setXfer_ccFree (s : State) (c : Nat) (x : Xfer) : (s.setXfer c x).ccFree = s.ccFree := rfl
@[simp] theorem State.setXfer_pgFree (s : State) (c : Nat) (x : Xfer) : (s.setXfer c x).pgFree = s.pgFree := rfl
@[simp] theorem State.setXfer_irqFlags (s : State) (c : Nat) (x : Xfer) : (s.setXfer c x).irqFlags = s.irqFlags := rfl
@[simp] theorem State.setXfer_irqEnable (s : State) (c : Nat) (x : Xfer) : (s.setXfer c x).irqEnable = s.irqEnable := rfl
@[simp] theorem State.setXfer_fault (s : State) (c : Nat) (x : Xfer) : (s.setXfer c x).fault = s.fault := rfl
@[simp] theorem State.setXfer_seq (s : State) (c : Nat) (x : Xfer) : (s.setXfer c x).seq = s.seq := rfl
@[simp] theorem State.setXfer_cmdBusy (s : State) (c : Nat) (x : Xfer) : (s.setXfer c x).cmdBusy = s.cmdBusy := rfl
@[simp] theorem State.setXfer_result (s : State) (c : Nat) (x : Xfer) : (s.setXfer c x).result = s.result := rfl
@[simp] theorem State.setXfer_cmdBuf (s : State) (c : Nat) (x : Xfer) : (s.setXfer c x).cmdBuf = s.cmdBuf := rfl
@[simp] theorem State.setXfer_xfer (s : State) (c : Nat) (x : Xfer) : (s.setXfer c x).xfer = s.xfer.set c x := rfl
@[simp] theorem State.setXfer_pgq (s : State) (c : Nat) (x : Xfer) : (s.setXfer c x).pgq = s.pgq := rfl
@[simp] theorem State.setXfer_pulseLog (s : State) (c : Nat) (x : Xfer) : (s.setXfer c x).pulseLog = s.pulseLog := rfl
@[simp] theorem State.setXfer_schedule (s : State) (c : Nat) (x : Xfer) : (s.setXfer c x).schedule = s.schedule := rfl
@[simp] theorem State.setXfer_hostOps (s : State) (c : Nat) (x : Xfer) : (s.setXfer c x).hostOps = s.hostOps := rfl
@[simp] theorem State.setXfer_hostLog (s : State) (c : Nat) (x : Xfer) : (s.setXfer c x).hostLog = s.hostLog := rfl
@[simp] theorem State.setXfer_handlers (s : State) (c : Nat) (x : Xfer) : (s.setXfer c x).handlers = s.handlers := rfl
@[simp] theorem State.setXfer_handlerLog (s : State) (c : Nat) (x : Xfer) : (s.setXfer c x).handlerLog = s.handlerLog := rfl
@[simp] theorem State.setXfer_freeIx (s : State) (c : Nat) (x : Xfer) : (s.setXfer c x).freeIx = s.freeIx := rfl

/-! ## setQueue -/

@[simp] theorem State.setQueue_cfg (s : State) (p : Nat) (q : List Word) : (s.setQueue p q).cfg = s.cfg := rfl
@[simp] theorem State.setQueue_dev (s : State) (p : Nat) (q : List Word) : (s.setQueue p q).dev = s.dev := rfl
@[simp] theorem State.setQueue_chanMap (s : State) (p : Nat) (q : List Word) : (s.setQueue p q).chanMap = s.chanMap := rfl
@[simp] theorem State.setQueue_ccFree (s : State) (p : Nat) (q : List Word) : (s.setQueue p q).ccFree = s.ccFree := rfl
@[simp] theorem State.setQueue_pgFree (s : State) (p : Nat) (q : List Word) : (s.setQueue p q).pgFree = s.pgFree := rfl
@[simp] theorem State.setQueue_irqFlags (s : State) (p : Nat) (q : List Word) : (s.setQueue p q).irqFlags = s.irqFlags := rfl
@[simp] theorem State.setQueue_irqEnable (s : State) (p : Nat) (q : List Word) : (s.setQueue p q).irqEnable = s.irqEnable := rfl
@[simp] theorem State.setQueue_fault (s : State) (p : Nat) (q : List Word) : (s.setQueue p q).fault = s.fault := rfl
@[simp] theorem State.setQueue_seq (s : State) (p : Nat) (q : List Word) : (s.setQueue p q).seq = s.seq := rfl
@[simp] theorem State.setQueue_cmdBusy (s : State) (p : Nat) (q : List Word) : (s.setQueue p q).cmdBusy = s.cmdBusy := rfl
@[simp] theorem State.setQueue_result (s : State) (p : Nat) (q : List Word) : (s.setQueue p q).result = s.result := rfl
@[simp] theorem State.setQueue_cmdBuf (s : State) (p : Nat) (q : List Word) : (s.setQueue p q).cmdBuf = s.cmdBuf := rfl
@[simp] theorem State.setQueue_xfer (s : State) (p : Nat) (q : List Word) : (s.setQueue p q).xfer = s.xfer := rfl
@[simp] theorem State.setQueue_pgq (s : State) (p : Nat) (q : List Word) : (s.setQueue p q).pgq = s.pgq.set p q := rfl
@[simp] theorem State.setQueue_pulseLog (s : State) (p : Nat) (q : List Word) : (s.setQueue p q).pulseLog = s.pulseLog := rfl
@[simp] theorem State.setQueue_schedule (s : State) (p : Nat) (q : List Word) : (s.setQueue p q).schedule = s.schedule := rfl
@[simp] theorem State.setQueue_hostOps (s : State) (p : Nat) (q : List Word) : (s.setQueue p q).hostOps = s.hostOps := rfl
@[simp] theorem State.setQueue_hostLog (s : State) (p : Nat) (q : List Word) : (s.setQueue p q).hostLog = s.hostLog := rfl
@[simp] theorem State.setQueue_handlers (s : State) (p : Nat) (q : List Word) : (s.setQueue p q).handlers = s.handlers := rfl
@[simp] theorem State.setQueue_handlerLog (s : State) (p : Nat) (q : List Word) : (s.setQueue p q).handlerLog = s.handlerLog := rfl
@[simp] theorem State.setQueue_freeIx (s : State) (p : Nat) (q : List Word) : (s.setQueue p q).freeIx = s.freeIx := rfl

/-! ## writePGQ -/

@[simp] theorem State.writePGQ_cfg (s : State) (i : Nat) (w : Word) : (s.writePGQ i w).cfg = s.cfg := rfl
@[simp] theorem State.writePGQ_dev (s : State) (i : Nat) (w : Word) : (s.writePGQ i w).dev = s.dev := rfl
@[simp] theorem State.writePGQ_chanMap (s : State) (i : Nat) (w : Word) : (s.writePGQ i w).chanMap = s.chanMap := rfl
@[simp] theorem State.writePGQ_ccFree (s : State) (i : Nat) (w : Word) : (s.writePGQ i w).ccFree = s.ccFree := rfl
@[simp] theorem State.writePGQ_pgFree (s : State) (i : Nat) (w : Word) : (s.writePGQ i w).pgFree = s.pgFree := rfl
@[simp] theorem State.writePGQ_irqFlags (s : State) (i : Nat) (w : Word) : (s.writePGQ i w).irqFlags = s.irqFlags := rfl
@[simp] theorem State.writePGQ_irqEnable (s : State) (i : Nat) (w : Word) : (s.writePGQ i w).irqEnable = s.irqEnable := rfl
@[simp] theorem State.writePGQ_fault (s : State) (i : Nat) (w : Word) : (s.writePGQ i w).fault = s.fault := rfl
@[simp] theorem State.writePGQ_seq (s : State) (i : Nat) (w : Word) : (s.writePGQ i w).seq = s.seq := rfl
@[simp] theorem State.writePGQ_cmdBusy (s : State) (i : Nat) (w : Word) : (s.writePGQ i w).cmdBusy = s.cmdBusy := rfl
@[simp] theorem State.writePGQ_result (s : State) (i : Nat) (w : Word) : (s.writePGQ i w).result = s.result := rfl
@[simp] theorem State.writePGQ_cmdBuf (s : State) (i : Nat) (w : Word) : (s.writePGQ i w).cmdBuf = s.cmdBuf := rfl
@[simp] theorem State.writePGQ_xfer (s : State) (i : Nat) (w : Word) : (s.writePGQ i w).xfer = s.xfer := rfl
@[simp] theorem State.writePGQ_pgq (s : State) (i : Nat) (w : Word) : (s.writePGQ i w).pgq = s.pgq.set (s.device i).pgChan (s.queue (s.device i).pgChan ++ [w]) := rfl
@[simp] theorem State.writePGQ_pulseLog (s : State) (i : Nat) (w : Word) : (s.writePGQ i w).pulseLog = s.pulseLog := rfl
@[simp] theorem State.writePGQ_schedule (s : State) (i : Nat) (w : Word) : (s.writePGQ i w).schedule = s.schedule := rfl
@[simp] theorem State.writePGQ_hostOps (s : State) (i : Nat) (w : Word) : (s.writePGQ i w).hostOps = s.hostOps := rfl
@[simp] theorem State.writePGQ_hostLog (s : State) (i : Nat) (w : Word) : (s.writePGQ i w).hostLog = s.hostLog := rfl
@[simp] theorem State.writePGQ_handlers (s : State) (i : Nat) (w : Word) : (s.writePGQ i w).handlers = s.handlers := rfl
@[simp] theorem State.writePGQ_handlerLog (s : State) (i : Nat) (w : Word) : (s.writePGQ i w).handlerLog = s.handlerLog := rfl
@[simp] theorem State.writePGQ_freeIx (s : State) (i : Nat) (w : Word) : (s.writePGQ i w).freeIx = s.freeIx := rfl

/-! ## raiseFault -/

@[simp] theorem State.raiseFault_cfg (s : State) (f : Word) : (s.raiseFault f).cfg = s.cfg := rfl
@[simp] theorem State.raiseFault_dev (s : State) (f : Word) : (s.raiseFault f).dev = s.dev := rfl
@[simp] theorem State.raiseFault_chanMap (s : State) (f : Word) : (s.raiseFault f).chanMap = s.chanMap := rfl
@[simp] theorem State.raiseFault_ccFree (s : State) (f : Word) : (s.raiseFault f).ccFree = s.ccFree := rfl
@[simp] theorem State.raiseFault_pgFree (s : State) (f : Word) : (s.raiseFault f).pgFree = s.pgFree := rfl
@[simp] theorem State.raiseFault_irqFlags (s : State) (f : Word) : (s.raiseFault f).irqFlags = s.irqFlags := rfl
@[simp] theorem State.raiseFault_irqEnable (s : State) (f : Word) : (s.raiseFault f).irqEnable = s.irqEnable := rfl
@[simp] theorem State.raiseFault_fault (s : State) (f : Word) : (s.raiseFault f).fault = s.fault ||| f := rfl
@[simp] theorem State.raiseFault_seq (s : State) (f : Word) : (s.raiseFault f).seq = s.seq := rfl
@[simp] theorem State.raiseFault_cmdBusy (s : State) (f : Word) : (s.raiseFault f).cmdBusy = s.cmdBusy := rfl
@[simp] theorem State.raiseFault_result (s : State) (f : Word) : (s.raiseFault f).result = s.result := rfl
@[simp] theorem State.raiseFault_cmdBuf (s : State) (f : Word) : (s.raiseFault f).cmdBuf = s.cmdBuf := rfl
@[simp] theorem State.raiseFault_xfer (s : State) (f : Word) : (s.raiseFault f).xfer = s.xfer := rfl
@[simp] theorem State.raiseFault_pgq (s : State) (f : Word) : (s.raiseFault f).pgq = s.pgq := rfl
@[simp] theorem State.raiseFault_pulseLog (s : State) (f : Word) : (s.raiseFault f).pulseLog = s.pulseLog := rfl
@[simp] theorem State.raiseFault_schedule (s : State) (f : Word) : (s.raiseFault f).schedule = s.schedule := rfl
@[simp] theorem State.raiseFault_hostOps (s : State) (f : Word) : (s.raiseFault f).hostOps = s.hostOps := rfl
@[simp] theorem State.raiseFault_hostLog (s : State) (f : Word) : (s.raiseFault f).hostLog = s.hostLog := rfl
@[simp] theorem State.raiseFault_handlers (s : State) (f : Word) : (s.raiseFault f).handlers = s.handlers := rfl
@[simp] theorem State.raiseFault_handlerLog (s : State) (f : Word) : (s.raiseFault f).handlerLog = s.handlerLog := rfl
@[simp] theorem State.raiseFault_freeIx (s : State) (f : Word) : (s.raiseFault f).freeIx = s.freeIx := rfl

/-! ## setIrqFlag -/

@[simp] theorem State.setIrqFlag_cfg (s : State) (c : Nat) : (s.setIrqFlag c).cfg = s.cfg := rfl
@[simp] theorem State.setIrqFlag_dev (s : State) (c : Nat) : (s.setIrqFlag c).dev = s.dev := rfl
@[simp] theorem State.setIrqFlag_chanMap (s : State) (c : Nat) : (s.setIrqFlag c).chanMap = s.chanMap := rfl
@[simp] theorem State.setIrqFlag_ccFree (s : State) (c : Nat) : (s.setIrqFlag c).ccFree = s.ccFree := rfl
@[simp] theorem State.setIrqFlag_pgFree (s : State) (c : Nat) : (s.setIrqFlag c).pgFree = s.pgFree := rfl
@[simp] theorem State.setIrqFlag_irqFlags (s : State) (c : Nat) : (s.setIrqFlag c).irqFlags = s.irqFlags ||| bitAt c := rfl
@[simp] theorem State.setIrqFlag_irqEnable (s : State) (c : Nat) : (s.setIrqFlag c).irqEnable = s.irqEnable := rfl
@[simp] theorem State.setIrqFlag_fault (s : State) (c : Nat) : (s.setIrqFlag c).fault = s.fault := rfl
@[simp] theorem State.setIrqFlag_seq (s : State) (c : Nat) : (s.setIrqFlag c).seq = s.seq := rfl
@[simp] theorem State.setIrqFlag_cmdBusy (s : State) (c : Nat) : (s.setIrqFlag c).cmdBusy = s.cmdBusy := rfl
@[simp] theorem State.setIrqFlag_result (s : State) (c : Nat) : (s.setIrqFlag c).result = s.result := rfl
@[simp] theorem State.setIrqFlag_cmdBuf (s : State) (c : Nat) : (s.setIrqFlag c).cmdBuf = s.cmdBuf := rfl
@[simp] theorem State.setIrqFlag_xfer (s : State) (c : Nat) : (s.setIrqFlag c).xfer = s.xfer := rfl
@[simp] theorem State.setIrqFlag_pgq (s : State) (c : Nat) : (s.setIrqFlag c).pgq = s.pgq := rfl
@[simp] theorem State.setIrqFlag_pulseLog (s : State) (c : Nat) : (s.setIrqFlag c).pulseLog = s.pulseLog := rfl
@[simp] theorem State.setIrqFlag_schedule (s : State) (c : Nat) : (s.setIrqFlag c).schedule = s.schedule := rfl
@[simp] theorem State.setIrqFlag_hostOps (s : State) (c : Nat) : (s.setIrqFlag c).hostOps = s.hostOps := rfl
@[simp] theorem State.setIrqFlag_hostLog (s : State) (c : Nat) : (s.setIrqFlag c).hostLog = s.hostLog := rfl
@[simp] theorem State.setIrqFlag_handlers (s : State) (c : Nat) : (s.setIrqFlag c).handlers = s.handlers := rfl
@[simp] theorem State.setIrqFlag_handlerLog (s : State) (c : Nat) : (s.setIrqFlag c).handlerLog = s.handlerLog := rfl
@[simp] theorem State.setIrqFlag_freeIx (s : State) (c : Nat) : (s.setIrqFlag c).freeIx = s.freeIx := rfl

/-! ## setIrqEnable -/

@[simp] theorem State.setIrqEnable_cfg (s : State) (c : Nat) : (s.setIrqEnable c).cfg = s.cfg := rfl
@[simp] theorem State.setIrqEnable_dev (s : State) (c : Nat) : (s.setIrqEnable c).dev = s.dev := rfl
@[simp] theorem State.setIrqEnable_chanMap (s : State) (c : Nat) : (s.setIrqEnable c).chanMap = s.chanMap := rfl
@[simp] theorem State.setIrqEnable_ccFree (s : State) (c : Nat) : (s.setIrqEnable c).ccFree = s.ccFree := rfl
@[simp] theorem State.setIrqEnable_pgFree (s : State) (c : Nat) : (s.setIrqEnable c).pgFree = s.pgFree := rfl
@[simp] theorem State.setIrqEnable_irqFlags (s : State) (c : Nat) : (s.setIrqEnable c).irqFlags = s.irqFlags := rfl
@[simp] theorem State.setIrqEnable_irqEnable (s : State) (c : Nat) : (s.setIrqEnable c).irqEnable = s.irqEnable ||| bitAt c := rfl
@[simp] theorem State.setIrqEnable_fault (s : State) (c : Nat) : (s.setIrqEnable c).fault = s.fault := rfl
@[simp] theorem State.setIrqEnable_seq (s : State) (c : Nat) : (s.setIrqEnable c).seq = s.seq := rfl
@[simp] theorem State.setIrqEnable_cmdBusy (s : State) (c : Nat) : (s.setIrqEnable c).cmdBusy = s.cmdBusy := rfl
@[simp] theorem State.setIrqEnable_result (s : State) (c : Nat) : (s.setIrqEnable c).result = s.result := rfl
@[simp] theorem State.setIrqEnable_cmdBuf (s : State) (c : Nat) : (s.setIrqEnable c).cmdBuf = s.cmdBuf := rfl
@[simp] theorem State.setIrqEnable_xfer (s : State) (c : Nat) : (s.setIrqEnable c).xfer = s.xfer := rfl
@[simp] theorem State.setIrqEnable_pgq (s : State) (c : Nat) : (s.setIrqEnable c).pgq = s.pgq := rfl
@[simp] theorem State.setIrqEnable_pulseLog (s : State) (c : Nat) : (s.setIrqEnable c).pulseLog = s.pulseLog := rfl
@[simp] theorem State.setIrqEnable_schedule (s : State) (c : Nat) : (s.setIrqEnable c).schedule = s.schedule := rfl
@[simp] theorem State.setIrqEnable_hostOps (s : State) (c : Nat) : (s.setIrqEnable c).hostOps = s.hostOps := rfl
@[simp] theorem State.setIrqEnable_hostLog (s : State) (c : Nat) : (s.setIrqEnable c).hostLog = s.hostLog := rfl
@[simp] theorem State.setIrqEnable_handlers (s : State) (c : Nat) : (s.setIrqEnable c).handlers = s.handlers := rfl
@[simp] theorem State.setIrqEnable_handlerLog (s : State) (c : Nat) : (s.setIrqEnable c).handlerLog = s.handlerLog := rfl
@[simp] theorem State.setIrqEnable_freeIx (s : State) (c : Nat) : (s.setIrqEnable c).freeIx = s.freeIx := rfl

/-! ## latch -/

@[simp] theorem State.latch_cfg (s : State) (r : Result) : (s.latch r).cfg = s.cfg := rfl
@[simp] theorem State.latch_dev (s : State) (r : Result) : (s.latch r).dev = s.dev := rfl
@[simp] theorem State.latch_chanMap (s : State) (r : Result) : (s.latch r).chanMap = s.chanMap := rfl
@[simp] theorem State.latch_ccFree (s : State) (r : Result) : (s.latch r).ccFree = s.ccFree := rfl
@[simp] theorem State.latch_pgFree (s : State) (r : Result) : (s.latch r).pgFree = s.pgFree := rfl
@[simp] theorem State.latch_irqFlags (s : State) (r : Result) : (s.latch r).irqFlags = s.irqFlags := rfl
@[simp] theorem State.latch_irqEnable (s : State) (r : Result) : (s.latch r).irqEnable = s.irqEnable := rfl
@[simp] theorem State.latch_fault (s : State) (r : Result) : (s.latch r).fault = s.fault := rfl
@[simp] theorem State.latch_seq (s : State) (r : Result) : (s.latch r).seq = s.seq := rfl
@[simp] theorem State.latch_cmdBusy (s : State) (r : Result) : (s.latch r).cmdBusy = false := rfl
@[simp] theorem State.latch_result (s : State) (r : Result) : (s.latch r).result = r := rfl
@[simp] theorem State.latch_cmdBuf (s : State) (r : Result) : (s.latch r).cmdBuf = s.cmdBuf := rfl
@[simp] theorem State.latch_xfer (s : State) (r : Result) : (s.latch r).xfer = s.xfer := rfl
@[simp] theorem State.latch_pgq (s : State) (r : Result) : (s.latch r).pgq = s.pgq := rfl
@[simp] theorem State.latch_pulseLog (s : State) (r : Result) : (s.latch r).pulseLog = s.pulseLog := rfl
@[simp] theorem State.latch_schedule (s : State) (r : Result) : (s.latch r).schedule = s.schedule := rfl
@[simp] theorem State.latch_hostOps (s : State) (r : Result) : (s.latch r).hostOps = s.hostOps := rfl
@[simp] theorem State.latch_hostLog (s : State) (r : Result) : (s.latch r).hostLog = s.hostLog := rfl
@[simp] theorem State.latch_handlers (s : State) (r : Result) : (s.latch r).handlers = s.handlers := rfl
@[simp] theorem State.latch_handlerLog (s : State) (r : Result) : (s.latch r).handlerLog = s.handlerLog := rfl
@[simp] theorem State.latch_freeIx (s : State) (r : Result) : (s.latch r).freeIx = s.freeIx := rfl

/-! ## endMacro -/

@[simp] theorem State.endMacro_cfg (s : State) (r : Result) : (s.endMacro r).cfg = s.cfg := rfl
@[simp] theorem State.endMacro_dev (s : State) (r : Result) : (s.endMacro r).dev = s.dev := rfl
@[simp] theorem State.endMacro_chanMap (s : State) (r : Result) : (s.endMacro r).chanMap = s.chanMap := rfl
@[simp] theorem State.endMacro_ccFree (s : State) (r : Result) : (s.endMacro r).ccFree = s.ccFree := rfl
@[simp] theorem State.endMacro_pgFree (s : State) (r : Result) : (s.endMacro r).pgFree = s.pgFree := rfl
@[simp] theorem State.endMacro_irqFlags (s : State) (r : Result) : (s.endMacro r).irqFlags = s.irqFlags := rfl
@[simp] theorem State.endMacro_irqEnable (s : State) (r : Result) : (s.endMacro r).irqEnable = s.irqEnable := rfl
@[simp] theorem State.endMacro_fault (s : State) (r : Result) : (s.endMacro r).fault = s.fault := rfl
@[simp] theorem State.endMacro_seq (s : State) (r : Result) : (s.endMacro r).seq = .idle := rfl
@[simp] theorem State.endMacro_cmdBusy (s : State) (r : Result) : (s.endMacro r).cmdBusy = false := rfl
@[simp] theorem State.endMacro_result (s : State) (r : Result) : (s.endMacro r).result = r := rfl
@[simp] theorem State.endMacro_cmdBuf (s : State) (r : Result) : (s.endMacro r).cmdBuf = s.cmdBuf := rfl
@[simp] theorem State.endMacro_xfer (s : State) (r : Result) : (s.endMacro r).xfer = s.xfer := rfl
@[simp] theorem State.endMacro_pgq (s : State) (r : Result) : (s.endMacro r).pgq = s.pgq := rfl
@[simp] theorem State.endMacro_pulseLog (s : State) (r : Result) : (s.endMacro r).pulseLog = s.pulseLog := rfl
@[simp] theorem State.endMacro_schedule (s : State) (r : Result) : (s.endMacro r).schedule = s.schedule := rfl
@[simp] theorem State.endMacro_hostOps (s : State) (r : Result) : (s.endMacro r).hostOps = s.hostOps := rfl
@[simp] theorem State.endMacro_hostLog (s : State) (r : Result) : (s.endMacro r).hostLog = s.hostLog := rfl
@[simp] theorem State.endMacro_handlers (s : State) (r : Result) : (s.endMacro r).handlers = s.handlers := rfl
@[simp] theorem State.endMacro_handlerLog (s : State) (r : Result) : (s.endMacro r).handlerLog = s.handlerLog := rfl
@[simp] theorem State.endMacro_freeIx (s : State) (r : Result) : (s.endMacro r).freeIx = s.freeIx := rfl

/-! ## beginMacro -/

@[simp] theorem State.beginMacro_cfg (s : State) (q : Seq) : (s.beginMacro q).cfg = s.cfg := rfl
@[simp] theorem State.beginMacro_dev (s : State) (q : Seq) : (s.beginMacro q).dev = s.dev := rfl
@[simp] theorem State.beginMacro_chanMap (s : State) (q : Seq) : (s.beginMacro q).chanMap = s.chanMap := rfl
@[simp] theorem State.beginMacro_ccFree (s : State) (q : Seq) : (s.beginMacro q).ccFree = s.ccFree := rfl
@[simp] theorem State.beginMacro_pgFree (s : State) (q : Seq) : (s.beginMacro q).pgFree = s.pgFree := rfl
@[simp] theorem State.beginMacro_irqFlags (s : State) (q : Seq) : (s.beginMacro q).irqFlags = s.irqFlags := rfl
@[simp] theorem State.beginMacro_irqEnable (s : State) (q : Seq) : (s.beginMacro q).irqEnable = s.irqEnable := rfl
@[simp] theorem State.beginMacro_fault (s : State) (q : Seq) : (s.beginMacro q).fault = s.fault := rfl
@[simp] theorem State.beginMacro_seq (s : State) (q : Seq) : (s.beginMacro q).seq = q := rfl
@[simp] theorem State.beginMacro_cmdBusy (s : State) (q : Seq) : (s.beginMacro q).cmdBusy = true := rfl
@[simp] theorem State.beginMacro_result (s : State) (q : Seq) : (s.beginMacro q).result = s.result := rfl
@[simp] theorem State.beginMacro_cmdBuf (s : State) (q : Seq) : (s.beginMacro q).cmdBuf = s.cmdBuf := rfl
@[simp] theorem State.beginMacro_xfer (s : State) (q : Seq) : (s.beginMacro q).xfer = s.xfer := rfl
@[simp] theorem State.beginMacro_pgq (s : State) (q : Seq) : (s.beginMacro q).pgq = s.pgq := rfl
@[simp] theorem State.beginMacro_pulseLog (s : State) (q : Seq) : (s.beginMacro q).pulseLog = s.pulseLog := rfl
@[simp] theorem State.beginMacro_schedule (s : State) (q : Seq) : (s.beginMacro q).schedule = s.schedule := rfl
@[simp] theorem State.beginMacro_hostOps (s : State) (q : Seq) : (s.beginMacro q).hostOps = s.hostOps := rfl
@[simp] theorem State.beginMacro_hostLog (s : State) (q : Seq) : (s.beginMacro q).hostLog = s.hostLog := rfl
@[simp] theorem State.beginMacro_handlers (s : State) (q : Seq) : (s.beginMacro q).handlers = s.handlers := rfl
@[simp] theorem State.beginMacro_handlerLog (s : State) (q : Seq) : (s.beginMacro q).handlerLog = s.handlerLog := rfl
@[simp] theorem State.beginMacro_freeIx (s : State) (q : Seq) : (s.beginMacro q).freeIx = s.freeIx := rfl

/-! ## setSeq -/

@[simp] theorem State.setSeq_cfg (s : State) (q : Seq) : (s.setSeq q).cfg = s.cfg := rfl
@[simp] theorem State.setSeq_dev (s : State) (q : Seq) : (s.setSeq q).dev = s.dev := rfl
@[simp] theorem State.setSeq_chanMap (s : State) (q : Seq) : (s.setSeq q).chanMap = s.chanMap := rfl
@[simp] theorem State.setSeq_ccFree (s : State) (q : Seq) : (s.setSeq q).ccFree = s.ccFree := rfl
@[simp] theorem State.setSeq_pgFree (s : State) (q : Seq) : (s.setSeq q).pgFree = s.pgFree := rfl
@[simp] theorem State.setSeq_irqFlags (s : State) (q : Seq) : (s.setSeq q).irqFlags = s.irqFlags := rfl
@[simp] theorem State.setSeq_irqEnable (s : State) (q : Seq) : (s.setSeq q).irqEnable = s.irqEnable := rfl
@[simp] theorem State.setSeq_fault (s : State) (q : Seq) : (s.setSeq q).fault = s.fault := rfl
@[simp] theorem State.setSeq_seq (s : State) (q : Seq) : (s.setSeq q).seq = q := rfl
@[simp] theorem State.setSeq_cmdBusy (s : State) (q : Seq) : (s.setSeq q).cmdBusy = s.cmdBusy := rfl
@[simp] theorem State.setSeq_result (s : State) (q : Seq) : (s.setSeq q).result = s.result := rfl
@[simp] theorem State.setSeq_cmdBuf (s : State) (q : Seq) : (s.setSeq q).cmdBuf = s.cmdBuf := rfl
@[simp] theorem State.setSeq_xfer (s : State) (q : Seq) : (s.setSeq q).xfer = s.xfer := rfl
@[simp] theorem State.setSeq_pgq (s : State) (q : Seq) : (s.setSeq q).pgq = s.pgq := rfl
@[simp] theorem State.setSeq_pulseLog (s : State) (q : Seq) : (s.setSeq q).pulseLog = s.pulseLog := rfl
@[simp] theorem State.setSeq_schedule (s : State) (q : Seq) : (s.setSeq q).schedule = s.schedule := rfl
@[simp] theorem State.setSeq_hostOps (s : State) (q : Seq) : (s.setSeq q).hostOps = s.hostOps := rfl
@[simp] theorem State.setSeq_hostLog (s : State) (q : Seq) : (s.setSeq q).hostLog = s.hostLog := rfl
@[simp] theorem State.setSeq_handlers (s : State) (q : Seq) : (s.setSeq q).handlers = s.handlers := rfl
@[simp] theorem State.setSeq_handlerLog (s : State) (q : Seq) : (s.setSeq q).handlerLog = s.handlerLog := rfl
@[simp] theorem State.setSeq_freeIx (s : State) (q : Seq) : (s.setSeq q).freeIx = s.freeIx := rfl

/-! ## tick -/

@[simp] theorem State.tick_cfg (s : State) : (s.tick).cfg = s.cfg := rfl
@[simp] theorem State.tick_dev (s : State) : (s.tick).dev = s.dev := rfl
@[simp] theorem State.tick_chanMap (s : State) : (s.tick).chanMap = s.chanMap := rfl
@[simp] theorem State.tick_ccFree (s : State) : (s.tick).ccFree = s.ccFree := rfl
@[simp] theorem State.tick_pgFree (s : State) : (s.tick).pgFree = s.pgFree := rfl
@[simp] theorem State.tick_irqFlags (s : State) : (s.tick).irqFlags = s.irqFlags := rfl
@[simp] theorem State.tick_irqEnable (s : State) : (s.tick).irqEnable = s.irqEnable := rfl
@[simp] theorem State.tick_fault (s : State) : (s.tick).fault = s.fault := rfl
@[simp] theorem State.tick_seq (s : State) : (s.tick).seq = s.seq := rfl
@[simp] theorem State.tick_cmdBusy (s : State) : (s.tick).cmdBusy = s.cmdBusy := rfl
@[simp] theorem State.tick_result (s : State) : (s.tick).result = s.result := rfl
@[simp] theorem State.tick_cmdBuf (s : State) : (s.tick).cmdBuf = s.cmdBuf := rfl
@[simp] theorem State.tick_xfer (s : State) : (s.tick).xfer = s.xfer := rfl
@[simp] theorem State.tick_pgq (s : State) : (s.tick).pgq = s.pgq := rfl
@[simp] theorem State.tick_pulseLog (s : State) : (s.tick).pulseLog = s.pulseLog := rfl
@[simp] theorem State.tick_schedule (s : State) : (s.tick).schedule = s.schedule := rfl
@[simp] theorem State.tick_hostOps (s : State) : (s.tick).hostOps = s.hostOps := rfl
@[simp] theorem State.tick_hostLog (s : State) : (s.tick).hostLog = s.hostLog := rfl
@[simp] theorem State.tick_handlers (s : State) : (s.tick).handlers = s.handlers := rfl
@[simp] theorem State.tick_handlerLog (s : State) : (s.tick).handlerLog = s.handlerLog := rfl
@[simp] theorem State.tick_freeIx (s : State) : (s.tick).freeIx = s.freeIx + 1 := rfl

/-! ## reply -/

@[simp] theorem State.reply_cfg (s : State) (r : HostReply) : (s.reply r).cfg = s.cfg := rfl
@[simp] theorem State.reply_dev (s : State) (r : HostReply) : (s.reply r).dev = s.dev := rfl
@[simp] theorem State.reply_chanMap (s : State) (r : HostReply) : (s.reply r).chanMap = s.chanMap := rfl
@[simp] theorem State.reply_ccFree (s : State) (r : HostReply) : (s.reply r).ccFree = s.ccFree := rfl
@[simp] theorem State.reply_pgFree (s : State) (r : HostReply) : (s.reply r).pgFree = s.pgFree := rfl
@[simp] theorem State.reply_irqFlags (s : State) (r : HostReply) : (s.reply r).irqFlags = s.irqFlags := rfl
@[simp] theorem State.reply_irqEnable (s : State) (r : HostReply) : (s.reply r).irqEnable = s.irqEnable := rfl
@[simp] theorem State.reply_fault (s : State) (r : HostReply) : (s.reply r).fault = s.fault := rfl
@[simp] theorem State.reply_seq (s : State) (r : HostReply) : (s.reply r).seq = s.seq := rfl
@[simp] theorem State.reply_cmdBusy (s : State) (r : HostReply) : (s.reply r).cmdBusy = s.cmdBusy := rfl
@[simp] theorem State.reply_result (s : State) (r : HostReply) : (s.reply r).result = s.result := rfl
@[simp] theorem State.reply_cmdBuf (s : State) (r : HostReply) : (s.reply r).cmdBuf = s.cmdBuf := rfl
@[simp] theorem State.reply_xfer (s : State) (r : HostReply) : (s.reply r).xfer = s.xfer := rfl
@[simp] theorem State.reply_pgq (s : State) (r : HostReply) : (s.reply r).pgq = s.pgq := rfl
@[simp] theorem State.reply_pulseLog (s : State) (r : HostReply) : (s.reply r).pulseLog = s.pulseLog := rfl
@[simp] theorem State.reply_schedule (s : State) (r : HostReply) : (s.reply r).schedule = s.schedule := rfl
@[simp] theorem State.reply_hostOps (s : State) (r : HostReply) : (s.reply r).hostOps = s.hostOps := rfl
@[simp] theorem State.reply_hostLog (s : State) (r : HostReply) : (s.reply r).hostLog = s.hostLog ++ [r] := rfl
@[simp] theorem State.reply_handlers (s : State) (r : HostReply) : (s.reply r).handlers = s.handlers := rfl
@[simp] theorem State.reply_handlerLog (s : State) (r : HostReply) : (s.reply r).handlerLog = s.handlerLog := rfl
@[simp] theorem State.reply_freeIx (s : State) (r : HostReply) : (s.reply r).freeIx = s.freeIx := rfl

/-! ## What an update leaves readable as it was -/

@[simp] theorem State.xferOf_setDevice (s : State) (i : Nat) (d : Device) (n : Nat) : (s.setDevice i d).xferOf n = s.xferOf n := rfl
@[simp] theorem State.queue_setDevice (s : State) (i : Nat) (d : Device) (n : Nat) : (s.setDevice i d).queue n = s.queue n := rfl
@[simp] theorem State.slotOf_setDevice (s : State) (i : Nat) (d : Device) (n : Nat) : (s.setDevice i d).slotOf n = s.slotOf n := rfl
@[simp] theorem State.log_setDevice (s : State) (i : Nat) (d : Device) (n : Nat) : (s.setDevice i d).log n = s.log n := rfl
@[simp] theorem State.xferOf_modDevice (s : State) (i : Nat) (f : Device → Device) (n : Nat) : (s.modDevice i f).xferOf n = s.xferOf n := rfl
@[simp] theorem State.queue_modDevice (s : State) (i : Nat) (f : Device → Device) (n : Nat) : (s.modDevice i f).queue n = s.queue n := rfl
@[simp] theorem State.slotOf_modDevice (s : State) (i : Nat) (f : Device → Device) (n : Nat) : (s.modDevice i f).slotOf n = s.slotOf n := rfl
@[simp] theorem State.log_modDevice (s : State) (i : Nat) (f : Device → Device) (n : Nat) : (s.modDevice i f).log n = s.log n := rfl
@[simp] theorem State.xferOf_completeDevice (s : State) (i : Nat) (n : Nat) : (s.completeDevice i).xferOf n = s.xferOf n := rfl
@[simp] theorem State.queue_completeDevice (s : State) (i : Nat) (n : Nat) : (s.completeDevice i).queue n = s.queue n := rfl
@[simp] theorem State.slotOf_completeDevice (s : State) (i : Nat) (n : Nat) : (s.completeDevice i).slotOf n = s.slotOf n := rfl
@[simp] theorem State.log_completeDevice (s : State) (i : Nat) (n : Nat) : (s.completeDevice i).log n = s.log n := rfl
@[simp] theorem State.xferOf_clearStack (s : State) (i : Nat) (n : Nat) : (s.clearStack i).xferOf n = s.xferOf n := rfl
@[simp] theorem State.queue_clearStack (s : State) (i : Nat) (n : Nat) : (s.clearStack i).queue n = s.queue n := rfl
@[simp] theorem State.slotOf_clearStack (s : State) (i : Nat) (n : Nat) : (s.clearStack i).slotOf n = s.slotOf n := rfl
@[simp] theorem State.log_clearStack (s : State) (i : Nat) (n : Nat) : (s.clearStack i).log n = s.log n := rfl
@[simp] theorem State.device_setXfer (s : State) (c : Nat) (x : Xfer) (n : Nat) : (s.setXfer c x).device n = s.device n := rfl
@[simp] theorem State.queue_setXfer (s : State) (c : Nat) (x : Xfer) (n : Nat) : (s.setXfer c x).queue n = s.queue n := rfl
@[simp] theorem State.slotOf_setXfer (s : State) (c : Nat) (x : Xfer) (n : Nat) : (s.setXfer c x).slotOf n = s.slotOf n := rfl
@[simp] theorem State.log_setXfer (s : State) (c : Nat) (x : Xfer) (n : Nat) : (s.setXfer c x).log n = s.log n := rfl
@[simp] theorem State.device_setQueue (s : State) (p : Nat) (q : List Word) (n : Nat) : (s.setQueue p q).device n = s.device n := rfl
@[simp] theorem State.xferOf_setQueue (s : State) (p : Nat) (q : List Word) (n : Nat) : (s.setQueue p q).xferOf n = s.xferOf n := rfl
@[simp] theorem State.slotOf_setQueue (s : State) (p : Nat) (q : List Word) (n : Nat) : (s.setQueue p q).slotOf n = s.slotOf n := rfl
@[simp] theorem State.log_setQueue (s : State) (p : Nat) (q : List Word) (n : Nat) : (s.setQueue p q).log n = s.log n := rfl
@[simp] theorem State.device_writePGQ (s : State) (i : Nat) (w : Word) (n : Nat) : (s.writePGQ i w).device n = s.device n := rfl
@[simp] theorem State.xferOf_writePGQ (s : State) (i : Nat) (w : Word) (n : Nat) : (s.writePGQ i w).xferOf n = s.xferOf n := rfl
@[simp] theorem State.slotOf_writePGQ (s : State) (i : Nat) (w : Word) (n : Nat) : (s.writePGQ i w).slotOf n = s.slotOf n := rfl
@[simp] theorem State.log_writePGQ (s : State) (i : Nat) (w : Word) (n : Nat) : (s.writePGQ i w).log n = s.log n := rfl
@[simp] theorem State.device_raiseFault (s : State) (f : Word) (n : Nat) : (s.raiseFault f).device n = s.device n := rfl
@[simp] theorem State.xferOf_raiseFault (s : State) (f : Word) (n : Nat) : (s.raiseFault f).xferOf n = s.xferOf n := rfl
@[simp] theorem State.queue_raiseFault (s : State) (f : Word) (n : Nat) : (s.raiseFault f).queue n = s.queue n := rfl
@[simp] theorem State.slotOf_raiseFault (s : State) (f : Word) (n : Nat) : (s.raiseFault f).slotOf n = s.slotOf n := rfl
@[simp] theorem State.log_raiseFault (s : State) (f : Word) (n : Nat) : (s.raiseFault f).log n = s.log n := rfl
@[simp] theorem State.device_setIrqFlag (s : State) (c : Nat) (n : Nat) : (s.setIrqFlag c).device n = s.device n := rfl
@[simp] theorem State.xferOf_setIrqFlag (s : State) (c : Nat) (n : Nat) : (s.setIrqFlag c).xferOf n = s.xferOf n := rfl
@[simp] theorem State.queue_setIrqFlag (s : State) (c : Nat) (n : Nat) : (s.setIrqFlag c).queue n = s.queue n := rfl
@[simp] theorem State.slotOf_setIrqFlag (s : State) (c : Nat) (n : Nat) : (s.setIrqFlag c).slotOf n = s.slotOf n := rfl
@[simp] theorem State.log_setIrqFlag (s : State) (c : Nat) (n : Nat) : (s.setIrqFlag c).log n = s.log n := rfl
@[simp] theorem State.device_setIrqEnable (s : State) (c : Nat) (n : Nat) : (s.setIrqEnable c).device n = s.device n := rfl
@[simp] theorem State.xferOf_setIrqEnable (s : State) (c : Nat) (n : Nat) : (s.setIrqEnable c).xferOf n = s.xferOf n := rfl
@[simp] theorem State.queue_setIrqEnable (s : State) (c : Nat) (n : Nat) : (s.setIrqEnable c).queue n = s.queue n := rfl
@[simp] theorem State.slotOf_setIrqEnable (s : State) (c : Nat) (n : Nat) : (s.setIrqEnable c).slotOf n = s.slotOf n := rfl
@[simp] theorem State.log_setIrqEnable (s : State) (c : Nat) (n : Nat) : (s.setIrqEnable c).log n = s.log n := rfl
@[simp] theorem State.device_latch (s : State) (r : Result) (n : Nat) : (s.latch r).device n = s.device n := rfl
@[simp] theorem State.xferOf_latch (s : State) (r : Result) (n : Nat) : (s.latch r).xferOf n = s.xferOf n := rfl
@[simp] theorem State.queue_latch (s : State) (r : Result) (n : Nat) : (s.latch r).queue n = s.queue n := rfl
@[simp] theorem State.slotOf_latch (s : State) (r : Result) (n : Nat) : (s.latch r).slotOf n = s.slotOf n := rfl
@[simp] theorem State.log_latch (s : State) (r : Result) (n : Nat) : (s.latch r).log n = s.log n := rfl
@[simp] theorem State.device_endMacro (s : State) (r : Result) (n : Nat) : (s.endMacro r).device n = s.device n := rfl
@[simp] theorem State.xferOf_endMacro (s : State) (r : Result) (n : Nat) : (s.endMacro r).xferOf n = s.xferOf n := rfl
@[simp] theorem State.queue_endMacro (s : State) (r : Result) (n : Nat) : (s.endMacro r).queue n = s.queue n := rfl
@[simp] theorem State.slotOf_endMacro (s : State) (r : Result) (n : Nat) : (s.endMacro r).slotOf n = s.slotOf n := rfl
@[simp] theorem State.log_endMacro (s : State) (r : Result) (n : Nat) : (s.endMacro r).log n = s.log n := rfl
@[simp] theorem State.device_beginMacro (s : State) (q : Seq) (n : Nat) : (s.beginMacro q).device n = s.device n := rfl
@[simp] theorem State.xferOf_beginMacro (s : State) (q : Seq) (n : Nat) : (s.beginMacro q).xferOf n = s.xferOf n := rfl
@[simp] theorem State.queue_beginMacro (s : State) (q : Seq) (n : Nat) : (s.beginMacro q).queue n = s.queue n := rfl
@[simp] theorem State.slotOf_beginMacro (s : State) (q : Seq) (n : Nat) : (s.beginMacro q).slotOf n = s.slotOf n := rfl
@[simp] theorem State.log_beginMacro (s : State) (q : Seq) (n : Nat) : (s.beginMacro q).log n = s.log n := rfl
@[simp] theorem State.device_setSeq (s : State) (q : Seq) (n : Nat) : (s.setSeq q).device n = s.device n := rfl
@[simp] theorem State.xferOf_setSeq (s : State) (q : Seq) (n : Nat) : (s.setSeq q).xferOf n = s.xferOf n := rfl
@[simp] theorem State.queue_setSeq (s : State) (q : Seq) (n : Nat) : (s.setSeq q).queue n = s.queue n := rfl
@[simp] theorem State.slotOf_setSeq (s : State) (q : Seq) (n : Nat) : (s.setSeq q).slotOf n = s.slotOf n := rfl
@[simp] theorem State.log_setSeq (s : State) (q : Seq) (n : Nat) : (s.setSeq q).log n = s.log n := rfl
@[simp] theorem State.device_tick (s : State) (n : Nat) : (s.tick).device n = s.device n := rfl
@[simp] theorem State.xferOf_tick (s : State) (n : Nat) : (s.tick).xferOf n = s.xferOf n := rfl
@[simp] theorem State.queue_tick (s : State) (n : Nat) : (s.tick).queue n = s.queue n := rfl
@[simp] theorem State.slotOf_tick (s : State) (n : Nat) : (s.tick).slotOf n = s.slotOf n := rfl
@[simp] theorem State.log_tick (s : State) (n : Nat) : (s.tick).log n = s.log n := rfl
@[simp] theorem State.device_reply (s : State) (r : HostReply) (n : Nat) : (s.reply r).device n = s.device n := rfl
@[simp] theorem State.xferOf_reply (s : State) (r : HostReply) (n : Nat) : (s.reply r).xferOf n = s.xferOf n := rfl
@[simp] theorem State.queue_reply (s : State) (r : HostReply) (n : Nat) : (s.reply r).queue n = s.queue n := rfl
@[simp] theorem State.slotOf_reply (s : State) (r : HostReply) (n : Nat) : (s.reply r).slotOf n = s.slotOf n := rfl
@[simp] theorem State.log_reply (s : State) (r : HostReply) (n : Nat) : (s.reply r).log n = s.log n := rfl

/-! ## Reading back -/

/-- A claimed slot is a slot: the reset record, which stands where there is none, is not in use. -/
theorem State.lt_of_inUse {s : State} {i : Nat} (h : (s.device i).inUse = true) : i < s.dev.length := by
  by_contra hn
  have hd : s.device i = Device.reset := by
    simp [State.device, List.getD_eq_getElem?_getD, List.getElem?_eq_none (Nat.le_of_not_lt hn)]
  simp [hd, Device.reset] at h

@[simp] theorem State.device_setDevice_self {s : State} {i : Nat} {d : Device} (h : i < s.dev.length) :
    (s.setDevice i d).device i = d := by
  simp [State.device, h]

@[simp] theorem State.device_setDevice_ne {s : State} {i j : Nat} {d : Device} (h : i ≠ j) :
    (s.setDevice i d).device j = s.device j := by
  simp [State.device, List.getD_eq_getElem?_getD, List.getElem?_set_ne h]

@[simp] theorem State.device_modDevice_self {s : State} {i : Nat} {f : Device → Device}
    (h : i < s.dev.length) : (s.modDevice i f).device i = f (s.device i) :=
  State.device_setDevice_self h

@[simp] theorem State.device_modDevice_ne {s : State} {i j : Nat} {f : Device → Device} (h : i ≠ j) :
    (s.modDevice i f).device j = s.device j :=
  State.device_setDevice_ne h

/-- Writing a slot's own record changes nothing. -/
@[simp] theorem State.setDevice_device (s : State) (i : Nat) : s.setDevice i (s.device i) = s := by
  have h : s.dev.set i (s.device i) = s.dev := by
    by_cases hi : i < s.dev.length
    · simp [State.device, List.getD_eq_getElem?_getD, hi]
    · exact List.set_eq_of_length_le (Nat.le_of_not_lt hi)
  simp [State.setDevice, h]

/-- Of two writes to one slot the second stands. -/
@[simp] theorem State.setDevice_setDevice (s : State) (i : Nat) (d e : Device) :
    (s.setDevice i d).setDevice i e = s.setDevice i e := by
  simp [State.setDevice]

@[simp] theorem State.xferOf_setXfer_self {s : State} {c : Nat} {x : Xfer} (h : c < s.xfer.length) :
    (s.setXfer c x).xferOf c = x := by
  simp [State.xferOf, h]

@[simp] theorem State.xferOf_setXfer_ne {s : State} {c e : Nat} {x : Xfer} (h : c ≠ e) :
    (s.setXfer c x).xferOf e = s.xferOf e := by
  simp [State.xferOf, List.getD_eq_getElem?_getD, List.getElem?_set_ne h]

@[simp] theorem State.queue_setQueue_self {s : State} {p : Nat} {q : List Word} (h : p < s.pgq.length) :
    (s.setQueue p q).queue p = q := by
  simp [State.queue, h]

@[simp] theorem State.queue_setQueue_ne {s : State} {p r : Nat} {q : List Word} (h : p ≠ r) :
    (s.setQueue p q).queue r = s.queue r := by
  simp [State.queue, List.getD_eq_getElem?_getD, List.getElem?_set_ne h]

/-- A queue that is not empty belongs to a channel that exists. -/
theorem State.lt_of_queue_ne_nil {s : State} {p : Nat} (h : s.queue p ≠ []) : p < s.pgq.length := by
  by_contra hn
  exact h (by simp [State.queue, List.getD_eq_getElem?_getD, List.getElem?_eq_none (Nat.le_of_not_lt hn)])

/-- An armed channel exists. -/
theorem State.lt_of_active {s : State} {c : Nat} (h : (s.xferOf c).active = true) : c < s.xfer.length := by
  by_contra hn
  have hx : s.xferOf c = Xfer.reset := by
    simp [State.xferOf, List.getD_eq_getElem?_getD, List.getElem?_eq_none (Nat.le_of_not_lt hn)]
  simp [hx, Xfer.reset] at h

end Sys2Proof.Machine
end

