-- ==== Sys2Proof/Laws/Ops.lean ====
section
/-! SUPPORT. What each shared operation can do, said once: later proofs cite these lemmas and do not unfold the
operations. -/

namespace Sys2Proof.Machine

/-! ## Sets of channels -/

/-- Taking channels out of a set leaves a set in its canonical form (10_state.md R41). -/
theorem isChannelSet_filter {n : Nat} {l : List Nat} {f : Nat → Bool} (h : isChannelSet n l = true) :
    isChannelSet n (l.filter f) = true := by
  simp only [isChannelSet, Bool.and_eq_true, decide_eq_true_eq, List.all_eq_true, List.mem_filter] at h ⊢
  exact ⟨h.1.filter f, fun c hc => h.2 c hc.1⟩

/-! ## The control word -/

/-- The control word as an integer, modulo 2^32 (30_encoding.md R90). -/
theorem encodeControl_eq_ofNat (delay : Word) (dir en : Bool) :
    encodeControl delay dir en = BitVec.ofNat 32 (4 * delay.toNat + 2 * dir.toNat + en.toNat) := by
  have hd : ∀ (x : Word) (b : Bool), (x <<< 1) ||| wordOfBool b = x + x + wordOfBool b := by
    intro x b
    have h1 : (x <<< 1) &&& wordOfBool b = 0#32 := by
      ext i hi
      cases b <;> simp [wordOfBool, BitVec.getElem_shiftLeft, BitVec.getElem_one]
      omega
    rw [← BitVec.add_eq_or_of_and_eq_zero _ _ h1]
    congr 1
    apply BitVec.eq_of_toNat_eq
    simp [BitVec.toNat_shiftLeft, Nat.shiftLeft_eq]
    omega
  rw [encodeControl, hd, hd]
  apply BitVec.eq_of_toNat_eq
  cases dir <;> cases en <;> (simp [wordOfBool, BitVec.toNat_add]; omega)

@[simp] theorem Device.recompute_command (d : Device) :
    d.recompute.command = encodeControl d.delay d.direction d.enabled := rfl
@[simp] theorem Device.recompute_inUse (d : Device) : d.recompute.inUse = d.inUse := rfl
@[simp] theorem Device.recompute_delay (d : Device) : d.recompute.delay = d.delay := rfl
@[simp] theorem Device.recompute_direction (d : Device) : d.recompute.direction = d.direction := rfl
@[simp] theorem Device.recompute_enabled (d : Device) : d.recompute.enabled = d.enabled := rfl
@[simp] theorem Device.recompute_running (d : Device) : d.recompute.running = d.running := rfl
@[simp] theorem Device.recompute_stack (d : Device) : d.recompute.stack = d.stack := rfl
@[simp] theorem Device.recompute_minSpeed (d : Device) : d.recompute.minSpeed = d.minSpeed := rfl
@[simp] theorem Device.recompute_maxSpeed (d : Device) : d.recompute.maxSpeed = d.maxSpeed := rfl
@[simp] theorem Device.recompute_ccChan (d : Device) : d.recompute.ccChan = d.ccChan := rfl
@[simp] theorem Device.recompute_pgChan (d : Device) : d.recompute.pgChan = d.pgChan := rfl
@[simp] theorem Device.recompute_movAccDen (d : Device) : d.recompute.movAccDen = d.movAccDen := rfl

/-! ## set_delay -/

/-- The clamped delay is in range (10_state.md R39 (a)). -/
theorem clampDelay_range {c : Cfg} {v : Nat} (hc : c.minDelay < 2 ^ 30) (hv : v < 2 ^ 30) :
    c.minDelay ≤ (c.clampDelay v).toNat ∧ (c.clampDelay v).toNat < 2 ^ 30 := by
  have h : max v c.minDelay < 2 ^ 32 := by omega
  simp only [Cfg.clampDelay, wordOf, BitVec.toNat_ofNat, Nat.mod_eq_of_lt h]
  omega

/-- set_delay writes one slot's delay, some value in range, and its command word, and at most the counter besides
(R144). -/
theorem setDelay_cases (s : State) (i v : Nat) :
    ∃ w k, w < 2 ^ 30 ∧ (v < 2 ^ 30 → w = v ∧ k = s.freeIx) ∧
      s.setDelay i v =
        { s.modDevice i fun d => { d with delay := s.cfg.clampDelay w }.recompute with freeIx := k } := by
  by_cases h : v < 2 ^ 30
  · exact ⟨v, s.freeIx, h, fun _ => ⟨rfl, rfl⟩, by rw [State.setDelay, if_pos (show v < delayLimit from h)]; rfl⟩
  · refine ⟨(Config.freeDelay s.freeIx).toNat, s.freeIx + 1, (Config.freeDelay s.freeIx).isLt,
      fun hv => absurd hv h, ?_⟩
    rw [State.setDelay, if_neg (show ¬v < delayLimit from h)]
    rfl

/-- set_delay of a value in range (R144). -/
theorem setDelay_of_lt {s : State} {i v : Nat} (h : v < 2 ^ 30) :
    s.setDelay i v = s.modDevice i fun d => { d with delay := s.cfg.clampDelay v }.recompute := by
  rw [State.setDelay, if_pos (show v < delayLimit from h)]

/-! ## The ramp stack -/

/-- push stores the value, or sets `F_STACK_OVF` and nothing else (42_ramp_stack.md R171). -/
theorem push_cases (s : State) (i : Nat) (v : Word) :
    (s.cfg.stackFull (s.device i).stack = true ∧ s.push i v = s.raiseFault fStackOvf) ∨
    (s.cfg.stackFull (s.device i).stack = false ∧
      s.push i v = s.modDevice i fun d => { d with stack := d.stack ++ [v] }) := by
  cases h : s.cfg.stackFull (s.device i).stack <;> simp [State.push, h]

/-- pop after push returns the value (42_ramp_stack.md R176). -/
theorem pop_push {s : State} {i : Nat} {v : Word} (hi : i < s.dev.length)
    (hf : s.cfg.stackFull (s.device i).stack = false) : (s.push i v).pop i = (some v, s) := by
  simp only [State.push, hf, State.pop]
  simp only [State.modDevice]
  simp [hi]
  exact State.setDevice_device s i

/-! ## Commands and bursts -/

/-- A command on a device does its body on a claimed slot, or fails and touches nothing (60_exceptions.md R268). -/
theorem withHandle_cases (h : Byte) (s : State) (body : Nat → State × Result) :
    (s.validHandle h = true ∧ withHandle h s body = body h.toNat) ∨
    (s.validHandle h = false ∧ withHandle h s body = (s, Result.fail .invalidDevice)) := by
  cases hv : s.validHandle h <;> simp [withHandle, hv]

/-- What the handle check says (60_exceptions.md R268). -/
theorem validHandle_iff (s : State) (h : Byte) :
    s.validHandle h = true ↔ h ≠ 0xFF#8 ∧ h.toNat < s.cfg.nDev ∧ (s.device h.toNat).inUse = true := by
  simp [State.validHandle, invalidDevice, and_assoc]

/-- Arming a burst: when it succeeds, and what it writes (43_step_engine.md R186). -/
theorem startBurst_ok_iff (s t : State) (i n : Nat) (cb : Callback) :
    s.startBurst i n cb = .ok t ↔
      (s.device i).configured = true ∧ (s.device i).running = false ∧ n ≠ 0 ∧
      t = (s.modDevice i fun d => { d with callback := cb, running := true }).setXfer (s.device i).ccChan
        ⟨wordOf n, true, i⟩ := by
  cases h1 : (s.device i).configured <;> cases h2 : (s.device i).running <;> by_cases h3 : n = 0 <;>
    simp [State.startBurst, h1, h2, h3, eq_comm]

/-- Arming a burst: the one error reported (43_step_engine.md R186, 60_exceptions.md R269). -/
theorem startBurst_error_iff (s : State) (i n : Nat) (cb : Callback) (e : ErrorKind) :
    s.startBurst i n cb = .error e ↔
      ((s.device i).configured = false ∧ e = .notConfigured) ∨
      ((s.device i).configured = true ∧ (s.device i).running = true ∧ e = .alreadyRunning) ∨
      ((s.device i).configured = true ∧ (s.device i).running = false ∧ n = 0 ∧ e = .badArgument) := by
  cases h1 : (s.device i).configured <;> cases h2 : (s.device i).running <;> by_cases h3 : n = 0 <;>
    simp [State.startBurst, h1, h2, h3, eq_comm]

/-- An internal dispatch arms the burst, or sets `F_SEQ_DISPATCH` and nothing else (R189). -/
theorem seqDispatch_cases (s : State) (i n : Nat) (cb : Callback) :
    s.startBurst i n cb = .ok (s.seqDispatch i n cb) ∨ s.seqDispatch i n cb = s.raiseFault fSeqDispatch := by
  unfold State.seqDispatch
  cases h : s.startBurst i n cb <;> simp

/-- An internal dispatch on a device without a program or running is refused (R189). -/
theorem seqDispatch_of_refused {s : State} {i : Nat}
    (h : (s.device i).configured = false ∨ (s.device i).running = true) (n : Nat) (cb : Callback) :
    s.seqDispatch i n cb = s.raiseFault fSeqDispatch := by
  cases h1 : (s.device i).configured <;> simp_all [State.seqDispatch, State.startBurst]

/-- A field that is a number, where it fits 32 bits (30_encoding.md R104). -/
theorem fieldWord_of_lt {n : Nat} (h : n < 2 ^ 32) : (fieldWord n).toNat = n := by
  rw [fieldWord, if_pos h, wordOf, BitVec.toNat_ofNat, Nat.mod_eq_of_lt h]

/-- What crediting an axis makes of the context (45_multi_axis.md R247). -/
theorem MultiCtx.credit_eq {ctx : MultiCtx} {j : Nat} {a : Axis} (h : ctx.axes[j]? = some a) (delta : Int) :
    ctx.credit j delta = { ctx with axes := ctx.axes.set j { a with remaining := a.remaining + delta } } := by
  simp [MultiCtx.credit, List.modify_eq_set_getElem?, h]

/-- Crediting an axis leaves the number of axes and the mode as they were. -/
@[simp] theorem MultiCtx.credit_length (ctx : MultiCtx) (j : Nat) (delta : Int) :
    (ctx.credit j delta).axes.length = ctx.axes.length := by simp [MultiCtx.credit]
@[simp] theorem MultiCtx.credit_sequential (ctx : MultiCtx) (j : Nat) (delta : Int) :
    (ctx.credit j delta).sequential = ctx.sequential := rfl
@[simp] theorem MultiCtx.credit_half (ctx : MultiCtx) (j : Nat) (delta : Int) :
    (ctx.credit j delta).half = ctx.half := rfl

/-! ## Agents -/

/-- When BEAT is enabled and what it writes (43_step_engine.md R190). -/
theorem beatStep_some_iff (c : Nat) (s t : State) :
    beatStep c s = some t ↔
      (s.xferOf c).active = true ∧ s.queueFull (s.device (s.xferOf c).slot).pgChan = false ∧
      t = if (s.xferOf c).count = 1#32 then
          ((s.writePGQ (s.xferOf c).slot (s.readCW (s.xferOf c).slot)).setXfer c
            ⟨0#32, false, (s.xferOf c).slot⟩).setIrqFlag c
        else
          (s.writePGQ (s.xferOf c).slot (s.readCW (s.xferOf c).slot)).setXfer c
            ⟨(s.xferOf c).count - 1#32, true, (s.xferOf c).slot⟩ := by
  have hz : ∀ x : Word, x - 1#32 = 0#32 ↔ x = 1#32 := by
    intro x
    rw [BitVec.sub_eq_iff_eq_add]
    simp
  cases h1 : (s.xferOf c).active <;> cases h2 : s.queueFull (s.device (s.xferOf c).slot).pgChan <;>
    by_cases h3 : (s.xferOf c).count = 1#32 <;> simp [beatStep, h1, h2, h3, hz, eq_comm]

/-- When PULSE is enabled and what it writes (43_step_engine.md R206). -/
theorem pulseStep_some_iff (p : Nat) (s t : State) :
    pulseStep p s = some t ↔
      ∃ w rest, s.queue p = w :: rest ∧
        t = { s.setQueue p rest with pulseLog := s.pulseLog.set p (s.log p ++ [w]) } := by
  cases h : s.queue p <;> simp [pulseStep, h, eq_comm]

/-- When DISPATCH is enabled and what it does (60_exceptions.md R274, R275). -/
theorem dispatchStep_some_iff (s t : State) :
    dispatchStep s = some t ↔
      s.irqLine = true ∧
      t = (channelsIn s.pending s.cfg.nCC).foldl completeChannel
        { s with irqFlags := s.irqFlags &&& ~~~s.pending } := by
  cases h : s.irqLine <;> simp [dispatchStep, h, State.takeFlags, eq_comm]

/-- One turn of the machine on a legal configuration (20_memory.md R80). -/
theorem step_cases {s : State} (hc : s.cfg.ok = true) :
    (s.schedule = [] ∧ step s = .next s) ∨
    ∃ a rest, s.schedule = a :: rest ∧
      ((agentStep a { s with schedule := rest } = none ∧ step s = .next { s with schedule := rest }) ∨
        ∃ out, agentStep a { s with schedule := rest } = some out ∧ step s = out) := by
  cases h : s.schedule with
  | nil => exact .inl ⟨rfl, by simp [step, advance, hc, h]⟩
  | cons a rest =>
    refine .inr ⟨a, rest, rfl, ?_⟩
    cases ha : agentStep a { s with schedule := rest } with
    | none => exact .inl ⟨rfl, by simp [step, advance, hc, h, ha]⟩
    | some out => exact .inr ⟨out, rfl, by simp [step, advance, hc, h, ha]⟩

/-- A step that answers a next state runs on a legal configuration (U25). -/
theorem cfg_ok_of_step {s t : State} (h : step s = .next t) : s.cfg.ok = true := by
  by_contra hn
  simp [step, advance, hn] at h

end Sys2Proof.Machine
end

