-- ==== Sys2Proof/Laws/PerInstr.lean ====
section
/-! SUPPORT. Per-instruction families: `HeaderRow`, the header of a command names the command's row of the opcode
table (30_encoding.md R94, R97). -/

namespace Sys2Proof.Laws

/-- The row of spec/opcode_table.json an instruction stands for. -/
def rowOf : Instr → Op
  | .alloc => .alloc
  | .config2 _ _ _ _ => .config2
  | .config4 _ _ _ => .config4
  | .setDir _ _ => .setDir
  | .setEn _ _ => .setEn
  | .setDelay _ _ => .setDelay
  | .setAccel _ _ => .setAccel
  | .setPos _ _ => .setPos
  | .setMinspd _ _ => .setMinspd
  | .setMaxspd _ _ => .setMaxspd
  | .spd2dly _ => .spd2dly
  | .dly2spd _ => .dly2spd
  | .get _ _ => .get
  | .stkPush _ _ => .stkPush
  | .stkPop _ => .stkPop
  | .moveAsyncNone _ _ => .moveAsyncNone
  | .moveAsyncRamp _ _ => .moveAsyncRamp
  | .moveAsyncUser _ _ _ => .moveAsyncUser
  | .moveBlock _ _ _ _ _ => .moveBlock
  | .waitIdle _ => .waitIdle
  | .moveTo _ _ => .moveTo
  | .moveMulti _ _ => .moveMulti

/-- The encoder's header names the instruction's row. -/
def HeaderRow.Statement (i : Instr) : Prop := i.wellFormed = true → opOf (encodeHeader i) = some (rowOf i)

namespace HeaderRow

theorem alloc : HeaderRow.Statement (.alloc) := by
  intro _
  simp [opOf, encodeHeader, rowOf, rowIf]

theorem config2 (dev dirPin stepPin : Byte) (clkdiv : Word) : HeaderRow.Statement (.config2 dev dirPin stepPin clkdiv) := by
  intro _
  simp [opOf, encodeHeader, rowOf, rowIf]

theorem config4 (dev basePin : Byte) (clkdiv : Word) : HeaderRow.Statement (.config4 dev basePin clkdiv) := by
  intro _
  simp [opOf, encodeHeader, rowOf, rowIf]

theorem setDir (dev : Byte) (dir : Bool) : HeaderRow.Statement (.setDir dev dir) := by
  intro _
  simp [opOf, encodeHeader, rowOf, rowIf]

theorem setEn (dev : Byte) (en : Bool) : HeaderRow.Statement (.setEn dev en) := by
  intro _
  simp [opOf, encodeHeader, rowOf, rowIf]

theorem setDelay (dev : Byte) (delay : Word) : HeaderRow.Statement (.setDelay dev delay) := by
  intro _
  simp [opOf, encodeHeader, rowOf, rowIf]

theorem setAccel (dev : Byte) (rate : Word) : HeaderRow.Statement (.setAccel dev rate) := by
  intro _
  simp [opOf, encodeHeader, rowOf, rowIf]

theorem setPos (dev : Byte) (pos : Word) : HeaderRow.Statement (.setPos dev pos) := by
  intro _
  simp [opOf, encodeHeader, rowOf, rowIf]

theorem setMinspd (dev : Byte) (rate : Word) : HeaderRow.Statement (.setMinspd dev rate) := by
  intro _
  simp [opOf, encodeHeader, rowOf, rowIf]

theorem setMaxspd (dev : Byte) (rate : Word) : HeaderRow.Statement (.setMaxspd dev rate) := by
  intro _
  simp [opOf, encodeHeader, rowOf, rowIf]

theorem spd2dly (rate : Word) : HeaderRow.Statement (.spd2dly rate) := by
  intro _
  simp [opOf, encodeHeader, rowOf, rowIf]

theorem dly2spd (delay : Word) : HeaderRow.Statement (.dly2spd delay) := by
  intro _
  simp [opOf, encodeHeader, rowOf, rowIf]

theorem get (dev field : Byte) : HeaderRow.Statement (.get dev field) := by
  intro _
  simp [opOf, encodeHeader, rowOf, rowIf]

theorem stkPush (dev : Byte) (value : Word) : HeaderRow.Statement (.stkPush dev value) := by
  intro _
  simp [opOf, encodeHeader, rowOf, rowIf]

theorem stkPop (dev : Byte) : HeaderRow.Statement (.stkPop dev) := by
  intro _
  simp [opOf, encodeHeader, rowOf, rowIf]

theorem moveAsyncNone (dev : Byte) (steps : Word) : HeaderRow.Statement (.moveAsyncNone dev steps) := by
  intro _
  simp [opOf, encodeHeader, rowOf, rowIf]

theorem moveAsyncRamp (dev : Byte) (steps : Word) : HeaderRow.Statement (.moveAsyncRamp dev steps) := by
  intro _
  simp [opOf, encodeHeader, rowOf, rowIf]

theorem moveAsyncUser (dev tag : Byte) (steps : Word) : HeaderRow.Statement (.moveAsyncUser dev tag steps) := by
  intro _
  simp [opOf, encodeHeader, rowOf, rowIf]

theorem moveBlock (dev : Byte) (dir : Bool) (steps startDelay delayStep : Word) : HeaderRow.Statement (.moveBlock dev dir steps startDelay delayStep) := by
  intro _
  simp [opOf, encodeHeader, rowOf, rowIf]

theorem waitIdle (dev : Byte) : HeaderRow.Statement (.waitIdle dev) := by
  intro _
  simp [opOf, encodeHeader, rowOf, rowIf]

theorem moveTo (dev : Byte) (target : Word) : HeaderRow.Statement (.moveTo dev target) := by
  intro _
  simp [opOf, encodeHeader, rowOf, rowIf]

theorem moveMulti (sequential : Bool) (axes : List (Byte × Word)) : HeaderRow.Statement (.moveMulti sequential axes) := by
  intro _
  simp [opOf, encodeHeader, rowOf, rowIf]

end HeaderRow

end Sys2Proof.Laws
end

