-- ==== Sys2Proof/Laws/Runs.lean ====
section
/-! SUPPORT. Runs and what the outside supplies to them: what a supply leaves alone, said once. -/

namespace Sys2Proof.Safety

open Sys2Proof.Machine

@[simp] theorem Outside.supply_cfg (out : Outside) (n : Nat) (s : State) : (out.supply n s).cfg = s.cfg := rfl
@[simp] theorem Outside.supply_dev (out : Outside) (n : Nat) (s : State) : (out.supply n s).dev = s.dev := rfl
@[simp] theorem Outside.supply_chanMap (out : Outside) (n : Nat) (s : State) :
    (out.supply n s).chanMap = s.chanMap := rfl
@[simp] theorem Outside.supply_ccFree (out : Outside) (n : Nat) (s : State) : (out.supply n s).ccFree = s.ccFree := rfl
@[simp] theorem Outside.supply_pgFree (out : Outside) (n : Nat) (s : State) : (out.supply n s).pgFree = s.pgFree := rfl
@[simp] theorem Outside.supply_irqFlags (out : Outside) (n : Nat) (s : State) :
    (out.supply n s).irqFlags = s.irqFlags := rfl
@[simp] theorem Outside.supply_irqEnable (out : Outside) (n : Nat) (s : State) :
    (out.supply n s).irqEnable = s.irqEnable := rfl
@[simp] theorem Outside.supply_fault (out : Outside) (n : Nat) (s : State) : (out.supply n s).fault = s.fault := rfl
@[simp] theorem Outside.supply_seq (out : Outside) (n : Nat) (s : State) : (out.supply n s).seq = s.seq := rfl
@[simp] theorem Outside.supply_cmdBusy (out : Outside) (n : Nat) (s : State) :
    (out.supply n s).cmdBusy = s.cmdBusy := rfl
@[simp] theorem Outside.supply_result (out : Outside) (n : Nat) (s : State) : (out.supply n s).result = s.result := rfl
@[simp] theorem Outside.supply_cmdBuf (out : Outside) (n : Nat) (s : State) : (out.supply n s).cmdBuf = s.cmdBuf := rfl
@[simp] theorem Outside.supply_xfer (out : Outside) (n : Nat) (s : State) : (out.supply n s).xfer = s.xfer := rfl
@[simp] theorem Outside.supply_pgq (out : Outside) (n : Nat) (s : State) : (out.supply n s).pgq = s.pgq := rfl
@[simp] theorem Outside.supply_pulseLog (out : Outside) (n : Nat) (s : State) :
    (out.supply n s).pulseLog = s.pulseLog := rfl
@[simp] theorem Outside.supply_schedule (out : Outside) (n : Nat) (s : State) :
    (out.supply n s).schedule = s.schedule := rfl
@[simp] theorem Outside.supply_hostOps (out : Outside) (n : Nat) (s : State) :
    (out.supply n s).hostOps = out.hostOps n := rfl
@[simp] theorem Outside.supply_hostLog (out : Outside) (n : Nat) (s : State) :
    (out.supply n s).hostLog = s.hostLog := rfl
@[simp] theorem Outside.supply_handlers (out : Outside) (n : Nat) (s : State) :
    (out.supply n s).handlers = out.handlers n := rfl
@[simp] theorem Outside.supply_handlerLog (out : Outside) (n : Nat) (s : State) :
    (out.supply n s).handlerLog = s.handlerLog := rfl
@[simp] theorem Outside.supply_freeIx (out : Outside) (n : Nat) (s : State) : (out.supply n s).freeIx = s.freeIx := rfl
@[simp] theorem Outside.supply_device (out : Outside) (n : Nat) (s : State) (i : Nat) :
    (out.supply n s).device i = s.device i := rfl
@[simp] theorem Outside.supply_xferOf (out : Outside) (n : Nat) (s : State) (c : Nat) :
    (out.supply n s).xferOf c = s.xferOf c := rfl
@[simp] theorem Outside.supply_queue (out : Outside) (n : Nat) (s : State) (p : Nat) :
    (out.supply n s).queue p = s.queue p := rfl
@[simp] theorem Outside.supply_slotOf (out : Outside) (n : Nat) (s : State) (c : Nat) :
    (out.supply n s).slotOf c = s.slotOf c := rfl
@[simp] theorem Outside.supply_pending (out : Outside) (n : Nat) (s : State) :
    (out.supply n s).pending = s.pending := rfl

/-- No invariant of the machine is about what the outside has in store. -/
theorem Inv.supply {s : State} (h : Inv s) (out : Outside) (n : Nat) : Inv (out.supply n s) :=
  ⟨h.cfgOk, h.sized, h.faultBits, h.port, h.sequencer, h.devices, h.queues,
    ⟨h.registry.ccFreeSet, h.registry.pgFreeSet, h.registry.pgDistinct, h.registry.slots, h.registry.channels⟩,
    h.running⟩

end Sys2Proof.Safety
end

