-- ==== Sys2Proof/Tests/Slice0.lean ====
section
/-! SUPPORT. Tests of the model: expected results are those of spec/95_test_vectors.md or of the rule named, never the
model's own; and the witnesses of the statements' hypotheses, each a concrete state and operands that meet them. -/

namespace Sys2Proof.Tests

open Sys2Proof.Machine Sys2Proof.Safety Sys2Proof.Claims

/-! ## Helpers -/

/-- The next state of an outcome. -/
def nextOf : Host.Outcome State Fault Refusal → State
  | .next t => t
  | .fault _ => State.reset
  | .refused _ => State.reset

/-- A command in thread context. -/
def run1 (i : Instr) (s : State) : State := nextOf (exec i s)

/-- The error code and the two values of a command. -/
def resultOf (i : Instr) (s : State) : Nat × Nat × Nat :=
  ((run1 i s).result.err.toNat, (run1 i s).result.value.toNat, (run1 i s).result.value2.toNat)

/-- A device after the standard set-up of 95_test_vectors.md section 1 and `MOVE_TO`'s delay: delay 990, enabled. -/
def motor (c : Nat) : Device :=
  { Device.reset with
    inUse := true, pgChan := c, ccChan := c, configured := true, enabled := true, delay := 990#32
    command := 0xF79#32, acceleration := 20000#32, minSpeed := some 1000#32, maxSpeed := some 50000#32 }

/-- A device as ALLOC leaves it (10_state.md R53), with some values where R53 names none. -/
def fresh (c : Nat) : Device := { Device.reset with inUse := true, pgChan := c, ccChan := c }

/-- Devices on slots 0 and 1, with the registry to match. -/
def twoOf (d0 d1 : Device) : State :=
  { State.reset with
    dev := d0 :: d1 :: List.replicate 6 Device.reset
    chanMap := some 0 :: some 1 :: List.replicate 10 none
    ccFree := (List.range 12).drop 2
    pgFree := (List.range 8).drop 2
    irqEnable := 3#32
    xfer := ⟨0#32, false, 0⟩ :: ⟨0#32, false, 1⟩ :: List.replicate 10 Xfer.reset }

/-- Two devices after the standard set-up. -/
def two : State := twoOf (motor 0) (motor 1)

/-- `two` with device 0 in a transfer of `n` steps and the control word of delay 500, direction 1 (V-STEP-1). -/
def armed (n : Word) (cb : Callback) : State :=
  { twoOf { motor 0 with delay := 500#32, direction := true, command := 0x7D3#32, running := true, callback := cb }
      (motor 1) with
    xfer := ⟨n, true, 0⟩ :: ⟨0#32, false, 1⟩ :: List.replicate 10 Xfer.reset }

/-- `two` with the completion flag of device 0 set and its callback to run. -/
def flagged (d : Device) : State := { twoOf { d with running := true } (motor 1) with irqFlags := 1#32 }

/-- `two` with the sequencer in a state of a macro command. -/
def inMacro (q : Seq) : State := { two with seq := q, cmdBusy := true }

/-- `two` in a MOVE_BLOCK on device 0. -/
def inBlock (q : Seq) : State :=
  { twoOf { motor 0 with running := true } (motor 1) with seq := q, cmdBusy := true }

/-- A device in its acceleration half (95_test_vectors.md 3.5). -/
def ramping (delay : Word) : Device :=
  { motor 0 with
    delay := delay, command := encodeControl delay false true, accelDir := .up, movAccNum := 20000#64 }

/-- A device in its deceleration half. -/
def braking (stack : List Word) (coasts : Word) : Device :=
  { motor 0 with
    delay := 300#32, command := 0x4B1#32, accelDir := .down, movAccNum := 20000#64, stack := stack
    coastingSlices := coasts }

/-- A context of MOVE_MULTI in progress on both devices. -/
def ctx0 (sequential : Bool) (per0 : Nat) (rem0 : Int) : MultiCtx :=
  ⟨[⟨0, 400, per0, rem0⟩, ⟨1, 200, 50, 200⟩], 400, 4, 2, sequential⟩

/-! ## WellFormed: ill-formed terms are refused -/

/-- 30_encoding.md R96: at most 127 axes. -/
theorem test_wellFormed_refuses_128_axes :
    (Instr.moveMulti false (List.replicate 128 (0#8, 0#32))).wellFormed = false := by decide +kernel

theorem test_wellFormed_takes_127_axes :
    (Instr.moveMulti true (List.replicate 127 (0#8, 0#32))).wellFormed = true := by decide +kernel

/-- What the check is for: the header of 128 axes says 0 axes. -/
theorem test_encode_of_ill_formed :
    decode (encode (.moveMulti false (List.replicate 128 (0#8, 0#32)))) ≠
      some (.command (.moveMulti false (List.replicate 128 (0#8, 0#32))), []) := by decide +kernel

/-! ## Decode: one word of every row, from 95_test_vectors.md where it has one, else from R93, R94, R97 -/

theorem test_decode_alloc : decode [0x00000001#32] = some (.command .alloc, []) := by decide
theorem test_decode_config2 : decode [0x00000102#32, 0x00000504#32, 0x00010000#32] =
    some (.command (.config2 1#8 4#8 5#8 0x00010000#32), []) := by decide
theorem test_decode_config4 : decode [0x00000103#32, 0x00000006#32, 0x00010000#32] =
    some (.command (.config4 1#8 6#8 0x00010000#32), []) := by decide
theorem test_decode_setDir : decode [0x00010010#32] = some (.command (.setDir 0#8 true), []) := by decide
theorem test_decode_setEn : decode [0x00010111#32] = some (.command (.setEn 1#8 true), []) := by decide
theorem test_decode_setDelay : decode [0x0000FF12#32, 0x000001F4#32] =
    some (.command (.setDelay 0xFF#8 500#32), []) := by decide
theorem test_decode_setAccel : decode [0x00000113#32, 0x00004E20#32] =
    some (.command (.setAccel 1#8 20000#32), []) := by decide
theorem test_decode_setPos : decode [0x00000314#32, 0xFFFFFF06#32] =
    some (.command (.setPos 3#8 (BitVec.ofInt 32 (-250))), []) := by decide
theorem test_decode_setMinspd : decode [0x00000115#32, 0x000003E8#32] =
    some (.command (.setMinspd 1#8 1000#32), []) := by decide
theorem test_decode_setMaxspd : decode [0x00000116#32, 0x0000C350#32] =
    some (.command (.setMaxspd 1#8 50000#32), []) := by decide
theorem test_decode_spd2dly : decode [0x00000018#32, 60000#32] = some (.command (.spd2dly 60000#32), []) := by decide
theorem test_decode_dly2spd : decode [0x00000019#32, 6#32] = some (.command (.dly2spd 6#32), []) := by decide
theorem test_decode_get : decode [0x0082011A#32] = some (.command (.get 1#8 0x82#8), []) := by decide
theorem test_decode_stkPush : decode [0x00000220#32, 77#32] = some (.command (.stkPush 2#8 77#32), []) := by decide
theorem test_decode_stkPop : decode [0x00000721#32] = some (.command (.stkPop 7#8), []) := by decide
theorem test_decode_moveAsyncNone : decode [0x00000730#32, 0x0000000A#32] =
    some (.command (.moveAsyncNone 7#8 10#32), []) := by decide
theorem test_decode_moveAsyncRamp : decode [0x00010730#32, 0x0000000A#32] =
    some (.command (.moveAsyncRamp 7#8 10#32), []) := by decide
theorem test_decode_moveAsyncUser : decode [0x07020030#32, 0x00000005#32] =
    some (.command (.moveAsyncUser 0#8 7#8 5#32), []) := by decide
theorem test_decode_moveBlock : decode [0x00010031#32, 0x00000003#32, 0x00000384#32, 0xFFFFFFF6#32] =
    some (.command (.moveBlock 0#8 true 3#32 900#32 (BitVec.ofInt 32 (-10))), []) := by decide
theorem test_decode_waitIdle : decode [0x00000032#32] = some (.command (.waitIdle 0#8), []) := by decide
theorem test_decode_moveTo : decode [0x00000740#32, 0x00000064#32] =
    some (.command (.moveTo 7#8 100#32), []) := by decide
/-- Header 0x00830041 of 95_test_vectors.md 3.9: three axes, sequential, seven words. -/
theorem test_decode_moveMulti :
    decode [0x00830041#32, 0#32, 5#32, 1#32, 6#32, 2#32, 7#32, 0x00000001#32] =
      some (.command (.moveMulti true [(0#8, 5#32), (1#8, 6#32), (2#8, 7#32)]), [0x00000001#32]) := by decide
/-- 95_test_vectors.md 3.9, rows 1 to 7: illegal headers, one word each. -/
theorem test_decode_illegal :
    [0x00000000#32, 0x00000017#32, 0x00000101#32, 0x00020010#32, 0x00030030#32, 0x07000030#32, 0x00000118#32].all
      (fun h => decode [h, 5#32] == some (.illegalCommand, [5#32])) = true := by decide
/-- 95_test_vectors.md 3.9, rows 8 and 9: reserved argument bits, the whole descriptor consumed. -/
theorem test_decode_badArgument :
    decode [0x00000002#32, 0x00010203#32, 0#32, 9#32] = some (.badArgument, [9#32]) ∧
    decode [0x00020041#32, 0x00000100#32, 5#32, 1#32, 5#32, 9#32] = some (.badArgument, [9#32]) := by decide
/-- 30_encoding.md R99: a descriptor whose last word is missing is no command yet. -/
theorem test_decode_incomplete : decode [0x00000031#32, 3#32, 900#32] = none := by decide
/-- 20_memory.md R76: little-endian, `SET_DELAY 0xFF, 500`. -/
theorem test_decodeBytes_little_endian :
    decodeBytes [0x12#8, 0xFF#8, 0x00#8, 0x00#8, 0xF4#8, 0x01#8, 0x00#8, 0x00#8] =
      some (.command (.setDelay 0xFF#8 500#32), []) := by decide
/-- The words of program P3 are the encoder's. -/
theorem test_encode_moveMulti : encode (.moveMulti false [(0#8, 4000#32), (1#8, 2000#32)]) =
    [0x00020041#32, 0#32, 0x00000FA0#32, 1#32, 0x000007D0#32] := by decide
/-- 30_encoding.md R101: mnemonic and operands. -/
theorem test_text : (Instr.moveBlock 0#8 true 3#32 900#32 0xFFFFFFF6#32).text = "MOVE_BLOCK 0, 3, 1, 900, -10" := by
  decide +kernel

/-! ## A table word runs as the first instruction after reset -/

theorem test_decodeTableWord : decodeTableWord 64 0x000001F40000FF12 = some (.setDelay 0xFF#8 500#32) := by decide
/-- The operand words the table gives no bits are zero. -/
theorem test_decodeTableWord_short : decodeTableWord 32 0x00000031 =
    some (.moveBlock 0#8 false 0#32 0#32 0#32) := by decide
/-- Program P6, command 10: `err = 2`. -/
theorem test_withFetchWord_step :
    (nextOf (step (State.reset.withFetchWord 64 0x000001F40000FF12))).result.err = 2#8 := by decide
/-- Program P1, command 1. -/
theorem test_withFetchWord_alloc :
    ((nextOf (step (State.reset.withFetchWord 32 1))).device 0).inUse = true := by decide

/-! ## Control words (95_test_vectors.md S2, V-ENC-1) -/

theorem test_encodeControl :
    encodeControl 500#32 true true = 0x7D3#32 ∧ encodeControl 500#32 false true = 0x7D1#32 ∧
    encodeControl 500#32 true false = 0x7D2#32 ∧ encodeControl 0x3FFFFFFF#32 false false = 0xFFFFFFFC#32 ∧
    encodeControl 990#32 true true = 0xF7B#32 := by decide
theorem test_decodeControl : decodeControl 0x7D3#32 = (500#32, true, true) := by decide

/-! ## Registry (V-REG-1, V-REG-3, V-REG-4, V-REG-5) -/

theorem test_alloc_third : resultOf .alloc two = (0, 2, 0) ∧ ((run1 .alloc two).device 2).pgChan = 2 ∧
    (run1 .alloc two).slotOf 2 = some 2 ∧ (run1 .alloc two).irqEnable = 7#32 := by decide
/-- V-REG-3's sets; V-REG-4's control word with DIRPOL = 1. -/
theorem test_alloc_least_free :
    let s := State.resetOf { Cfg.vectors with pgAvail := [1, 2, 4, 5], ccAvail := [3, 5], dirPol := true }
    ((run1 .alloc s).device 0).pgChan = 1 ∧ ((run1 .alloc s).device 0).ccChan = 3 ∧
      (run1 .alloc s).irqEnable = 8#32 ∧ (run1 .alloc s).pgFree = [2, 4, 5] ∧
      ((run1 .alloc s).device 0).command = 2#32 := by decide
theorem test_config2_pin_order :
    let s := twoOf (fresh 0) (fresh 1)
    ((run1 (.config2 0#8 3#8 2#8 0x10000#32) s).device 0).variant = .twoWire ∧
      ((run1 (.config2 0#8 3#8 2#8 0x10000#32) s).device 0).basePin = 2#8 ∧
      ((run1 (.config2 1#8 4#8 5#8 0x10000#32) s).device 1).variant = .twoWireReversed ∧
      ((run1 (.config2 1#8 4#8 5#8 0x10000#32) s).device 1).basePin = 4#8 := by decide
theorem test_config2_failures :
    resultOf (.config2 0#8 3#8 3#8 0#32) (twoOf (fresh 0) (fresh 1)) = (6, 0, 0) ∧
    resultOf (.config2 0#8 3#8 2#8 0#32) two = (6, 0, 0) ∧ resultOf (.config2 5#8 3#8 2#8 0#32) two = (2, 0, 0) := by
  decide
theorem test_config4 :
    ((run1 (.config4 1#8 6#8 0x10000#32) (twoOf (fresh 0) (fresh 1))).device 1).variant = .fourWire ∧
    ((run1 (.config4 1#8 6#8 0x10000#32) (twoOf (fresh 0) (fresh 1))).device 1).basePin = 6#8 ∧
    resultOf (.config4 1#8 6#8 0#32) two = (6, 0, 0) := by decide

/-! ## Encoder (V-ENC-2 to V-ENC-9) -/

/-- V-ENC-2: 0x7D1 to 0x7D3; with DIRPOL = 1 the same request gives 0x7D1. -/
theorem test_setDir :
    let d := { motor 0 with delay := 500#32, command := 0x7D1#32 }
    let s := twoOf d (motor 1)
    ((run1 (.setDir 0#8 true) s).device 0).command = 0x7D3#32 ∧
    ((run1 (.setDir 0#8 true) { s with cfg := { s.cfg with dirPol := true } }).device 0).command = 0x7D1#32 := by
  decide
theorem test_setEn :
    let s := twoOf { motor 0 with delay := 500#32, command := 0x7D1#32 } (motor 1)
    ((run1 (.setEn 0#8 false) s).device 0).command = 0x7D0#32 ∧ resultOf (.setEn 0xFF#8 true) s = (2, 0, 0) := by
  decide
theorem test_setDelay_range :
    ((run1 (.setDelay 0#8 0x3FFFFFFF#32) two).device 0).command = 0xFFFFFFFD#32 ∧
    resultOf (.setDelay 0#8 0x40000000#32) two = (4, 0, 0) ∧
    (run1 (.setDelay 0#8 0x40000000#32) two).device 0 = motor 0 := by decide
theorem test_setDelay_clamp :
    let s := { twoOf (fresh 0) (fresh 1) with cfg := { Cfg.vectors with minDelay := 20 } }
    ((run1 (.setDelay 0#8 5#32) s).device 0).delay = 20#32 ∧
    ((run1 (.setDelay 0#8 5#32) s).device 0).command = 0x50#32 := by decide
theorem test_setAccel : ((run1 (.setAccel 1#8 0#32) two).device 1).acceleration = 0#32 ∧
    ((run1 (.setAccel 1#8 0#32) two).device 0) = motor 0 := by decide
theorem test_setPos :
    resultOf (.get 0#8 0x04#8) (run1 (.setPos 0#8 (BitVec.ofInt 32 (-250))) two) = (0, 0xFFFFFF06, 0) := by decide
theorem test_setMinspd :
    resultOf (.setMinspd 0#8 0#32) two = (4, 0, 0) ∧ resultOf (.setMinspd 0#8 1#32) two = (0, 0, 0) ∧
    resultOf (.setMinspd 0#8 1#32) { two with cfg := { two.cfg with maxRate := 429496729 } } = (4, 0, 0) := by decide
theorem test_setMaxspd : resultOf (.setMaxspd 0#8 200000#32) two = (0, 0, 0) ∧
    ((run1 (.setMaxspd 0#8 200000#32) two).device 0).maxSpeed = some 200000#32 ∧
    ((run1 (.setMaxspd 0#8 200000#32) two).device 0).delay = 990#32 := by decide
/-- V-ENC-4. -/
theorem test_spd2dly :
    [1, 3, 7, 1000, 5000, 10000, 50000, 60000, 100000, 200000].map (fun r => Cfg.vectors.rateDelay (wordOf r)) =
      [999990, 333323, 142847, 990, 190, 90, 10, 6, 0, 0] := by decide
theorem test_spd2dly_zero : resultOf (.spd2dly 0#32) two = (4, 0, 0) ∧ resultOf (.spd2dly 60000#32) two = (0, 6, 0) := by
  decide
theorem test_dly2spd :
    resultOf (.dly2spd 5#32) two = (0, 66666, 10) ∧ resultOf (.dly2spd 6#32) two = (0, 62500, 0) ∧
    resultOf (.dly2spd 0x40000000#32) two = (4, 0, 0) := by decide
/-- V-ENC-7. -/
theorem test_project :
    [990, 323, 262, 226, 202, 184, 12, 11, 5, 0].map
      (fun d => Cfg.vectors.s2d (Cfg.vectors.project (Cfg.vectors.d2s d) ⟨20000, 1⟩)) =
      [323, 262, 226, 202, 184, 170, 11, 10, 4, 0] := by decide
theorem test_get_fields :
    let s := twoOf { braking [] 0#32 with callback := .user 7#8 } (motor 1)
    resultOf (.get 0#8 0x09#8) s = (0, 0xFFFFFFFF, 0) ∧ resultOf (.get 0#8 0x0B#8) s = (0, 0x702, 0) ∧
    resultOf (.get 0#8 0x07#8) s = (0, 20000, 0) ∧ resultOf (.get 0#8 0x11#8) s = (0, 50000, 1) ∧
    resultOf (.get 0#8 0x81#8) s = (0, 3, 0) := by decide
theorem test_get_failures :
    resultOf (.get 0#8 0x12#8) two = (6, 0, 0) ∧ resultOf (.get 1#8 0x82#8) two = (6, 0, 0) ∧
    resultOf (.get 3#8 0x02#8) two = (2, 0, 0) ∧ resultOf (.get 0#8 0x83#8) two = (6, 0, 0) := by decide

/-! ## Ramp stack (S3, V-STK-2, V-STK-3) -/

theorem test_stkPush :
    ((run1 (.stkPush 0#8 0x3FFFFFFF#32) (twoOf { motor 0 with stack := [990#32] } (motor 1))).device 0).stack =
      [990#32, 0x3FFFFFFF#32] ∧
    resultOf (.stkPush 0#8 0x40000000#32) two = (4, 0, 0) := by decide
theorem test_stkPush_full :
    let s := { twoOf { motor 0 with stack := [1#32, 2#32] } (motor 1) with
      cfg := { Cfg.vectors with stackDepth := some 2 } }
    resultOf (.stkPush 0#8 3#32) s = (0, 0, 0) ∧ (run1 (.stkPush 0#8 3#32) s).fault = 1#32 ∧
      ((run1 (.stkPush 0#8 3#32) s).device 0).stack = [1#32, 2#32] := by decide
theorem test_stkPop :
    let s := twoOf { motor 0 with stack := [990#32, 323#32, 262#32] } (motor 1)
    resultOf (.stkPop 0#8) s = (0, 262, 0) ∧ ((run1 (.stkPop 0#8) s).device 0).stack = [990#32, 323#32] := by decide
theorem test_stkPop_empty : resultOf (.stkPop 0#8) two = (0, 0xFFFFFFFF, 1) ∧ (run1 (.stkPop 0#8) two).fault = 0#32 := by
  decide

/-! ## Step engine (V-STEP-1 to V-STEP-4) -/

theorem test_moveAsyncNone :
    let t := run1 (.moveAsyncNone 0#8 3#32) two
    (t.device 0).running = true ∧ t.xferOf 0 = ⟨3#32, true, 0⟩ ∧ (t.device 0).callback = .none := by decide
/-- V-STEP-2: the first failing check is reported. -/
theorem test_moveAsync_failures :
    resultOf (.moveAsyncNone 2#8 5#32) two = (2, 0, 0) ∧
    resultOf (.moveAsyncNone 0#8 0#32) (twoOf (fresh 0) (fresh 1)) = (5, 0, 0) ∧
    resultOf (.moveAsyncUser 0#8 7#8 5#32) (armed 1#32 .none) = (3, 0, 0) ∧
    resultOf (.moveAsyncRamp 0#8 0#32) two = (6, 0, 0) := by decide
theorem test_moveAsyncRamp : ((run1 (.moveAsyncRamp 1#8 10#32) two).device 1).callback = .ramp ∧
    (run1 (.moveAsyncRamp 1#8 10#32) two).xferOf 1 = ⟨10#32, true, 1⟩ := by decide
theorem test_moveAsyncUser : ((run1 (.moveAsyncUser 0#8 9#8 1#32) two).device 0).callback = .user 9#8 := by decide
/-- V-STEP-1: the last BEAT of a burst. -/
theorem test_beat_last :
    let t := (beatStep 0 (armed 1#32 .none)).getD two
    t.queue 0 = [0x7D3#32] ∧ t.xferOf 0 = ⟨0#32, false, 0⟩ ∧ t.irqFlags = 1#32 ∧ t.irqLine = true ∧
      (t.device 0).running = true := by decide
/-- Program P2: a full queue disables BEAT. -/
theorem test_beat_full :
    beatStep 0 { armed 2#32 .none with pgq := [7#32, 7#32, 7#32, 7#32] :: List.replicate 7 [] } = none := by decide
theorem test_pulse :
    let t := (pulseStep 0 { two with pgq := [0x7D3#32, 0x643#32] :: List.replicate 7 [] }).getD two
    t.log 0 = [0x7D3#32] ∧ t.queue 0 = [0x643#32] := by decide
/-- V-STEP-3: `MOVE_BLOCK h, 3, 1, 900, -10` pushes 0xE13 first. -/
theorem test_moveBlock :
    let t := run1 (.moveBlock 0#8 true 3#32 900#32 (BitVec.ofInt 32 (-10))) two
    t.cmdBusy = true ∧ (t.device 0).running = true ∧
      ((sequencerStep t).getD two).queue 0 = [0xE13#32] ∧
      ((sequencerStep t).getD two).seq = .block 0 2 890 true (-10) := by decide
theorem test_moveBlock_failure : resultOf (.moveBlock 0#8 false 1#32 0x40000000#32 0#32) two = (4, 0, 0) ∧
    ((run1 (.moveBlock 0#8 false 1#32 0x40000000#32 0#32) two).device 0).running = false := by decide
/-- Program P5, command 5: the ramp 10, 4, −2 faults at its third word. -/
theorem test_block_range :
    let t := (sequencerStep (inBlock (.block 0 2 (-2) false (-6)))).getD two
    t.fault = 8#32 ∧ t.queue 0 = [] ∧ t.seq = .blockDrain 0 ⟨4#8, 0#32, 0#32⟩ := by decide
theorem test_waitIdle : (run1 (.waitIdle 0#8) (armed 1#32 .none)).cmdBusy = true ∧
    (sequencerStep (run1 (.waitIdle 0#8) (armed 1#32 .none))).isNone = true ∧
    (((sequencerStep (run1 (.waitIdle 0#8) two)).getD two).seq = .idle) := by decide

/-! ## The ramp (95_test_vectors.md 3.5) and MOVE_TO (S5, P1, V-TO-10) -/

theorem test_accel_up :
    ((accelCallback 0 (twoOf (ramping 990#32) (motor 1))).device 0).delay = 323#32 ∧
    ((accelCallback 0 (twoOf (ramping 990#32) (motor 1))).device 0).stack = [990#32] ∧
    ((accelCallback 0 (twoOf (ramping 11#32) (motor 1))).device 0).coastingSlices = 1#32 ∧
    ((accelCallback 0 (twoOf (ramping 0#32) (motor 1))).device 0).delay = 10#32 := by decide
theorem test_accel_down :
    ((accelCallback 0 (twoOf (braking [990#32] 2#32) (motor 1))).device 0).coastingSlices = 1#32 ∧
    ((accelCallback 0 (twoOf (braking [990#32, 323#32] 0#32) (motor 1))).device 0).delay = 323#32 ∧
    (accelCallback 0 (twoOf (braking [] 0#32) (motor 1))).fault = 2#32 := by decide
/-- Program P1, command 7. -/
theorem test_moveTo :
    let t := run1 (.moveTo 0#8 1000#32) two
    (t.device 0).position = 1000#32 ∧ (t.device 0).command = 0xF7B#32 ∧ (t.device 0).accelDir = .up ∧
      (t.device 0).movAccNum = 20000#64 ∧ t.seq = .to 0 .accel 5 0 5 ∧ t.cmdBusy = true := by decide
theorem test_moveTo_failures :
    resultOf (.moveTo 0#8 5#32) (twoOf (fresh 0) (fresh 1)) = (5, 0, 0) ∧
    resultOf (.moveTo 0#8 5#32) (twoOf { motor 0 with maxSpeed := none } (motor 1)) = (5, 0, 0) ∧
    resultOf (.moveTo 0#8 5#32) (armed 1#32 .none) = (3, 0, 0) ∧ resultOf (.moveTo 0xFF#8 5#32) two = (2, 0, 0) := by
  decide

/-! ## MOVE_MULTI (P3, V-MA-9) -/

theorem test_moveMulti :
    let t := run1 (.moveMulti false [(0#8, 4000#32), (1#8, 2000#32)]) two
    t.seq = .multi ⟨[⟨0, 4000, 100, 4000⟩, ⟨1, 2000, 50, 2000⟩], 4000, 40, 20, false⟩ .accel 20 0 [] ∧
      (t.device 0).movAccNum = 80000000#64 ∧ (t.device 1).movAccNum = 40000000#64 ∧
      (t.device 1).movAccDen = 4000#32 ∧ (t.device 1).position = 2000#32 := by decide
theorem test_moveMulti_failures :
    resultOf (.moveMulti false (List.replicate 9 (0#8, 5#32))) two = (6, 0, 0) ∧
    resultOf (.moveMulti false [(0#8, 5#32), (0xFF#8, 5#32)]) two = (2, 0, 0) ∧
    resultOf (.moveMulti false [(0#8, 5#32), (0#8, 6#32)]) two = (6, 0, 0) ∧
    resultOf (.moveMulti false [(0#8, 0#32), (1#8, 0#32)]) (twoOf (motor 0) (fresh 1)) = (0, 0, 0) ∧
    resultOf (.moveMulti false [(0#8, 5#32), (1#8, 0#32)]) (twoOf (motor 0) (fresh 1)) = (5, 0, 0) ∧
    resultOf (.moveMulti false []) two = (0, 0, 0) := by decide

/-! ## Dispatch, handlers, window, reset (V-IRQ-1 to V-IRQ-3, V-RST-1) -/

theorem test_dispatch_ramp :
    let t := (dispatchStep (flagged { ramping 990#32 with callback := .ramp })).getD two
    t.irqFlags = 0#32 ∧ t.irqLine = false ∧ (t.device 0).running = false ∧ (t.device 0).delay = 323#32 ∧
      (t.device 0).stack = [990#32] := by decide
/-- V-IRQ-3; program P4: a handler may start the next burst of its own device. -/
theorem test_dispatch_user :
    let t := (dispatchStep { flagged { motor 0 with callback := .user 7#8 } with
      handlers := [[.moveTo 0#8 5#32, .moveAsyncUser 0#8 7#8 2#32]] }).getD two
    (t.device 0).running = true ∧ t.xferOf 0 = ⟨2#32, true, 0⟩ ∧
      t.handlerLog = [.call 7#8 0, .result ⟨7#8, 0#32, 0#32⟩, .result ⟨0#8, 0#32, 0#32⟩] := by decide
/-- 20_memory.md R75: `STATUS` while a command runs and the line is asserted. -/
theorem test_status :
    (hostAccess (.read 0x10 4) { flagged (motor 0) with cmdBusy := true, seq := .waitIdle 0 } |> nextOf).hostLog =
      [.data 3#32] := by decide
theorem test_reset : (nextOf (step { armed 2#32 .ramp with schedule := [.platformReset] })).xferOf 0 = Xfer.reset ∧
    resultOf (.get 0#8 0x02#8) (platformReset two) = (2, 0, 0) ∧
    resultOf (.get 0#8 0x80#8) (platformReset two) = (0, 0, 0) := by decide

/-! ## Witnesses: for each statement with hypotheses, states and operands that meet them, clause by clause -/

/-- The invariant holds after reset. -/
theorem reset_inv : Inv State.reset :=
  ⟨by decide, by decide, by decide, by decide, trivial, by decide, by decide,
    ⟨by decide, by decide, by decide, by decide, by decide⟩, by decide⟩

/-- `two` before a command of the host's own choice of agent. -/
def idle2 (a : List Agent) : State := { two with schedule := a }

/-- An armed transfer of three steps with its beats and pulses scheduled. -/
def burst3 : State :=
  { armed 3#32 .ramp with schedule := [.burst 0, .pulseGen 0, .burst 0, .pulseGen 0, .burst 0, .pulseGen 0] }

/-- A completion to dispatch. -/
def toDispatch : State := { flagged { motor 0 with callback := .ramp } with schedule := [.dispatcher] }

/-- A MOVE_BLOCK of two words 900, 890 with its steps and pulses scheduled. -/
def block2 : State :=
  { inBlock (.block 0 2 900 true (-10)) with
    schedule := [.sequencer, .pulseGen 0, .sequencer, .pulseGen 0, .sequencer, .sequencer] }

theorem two_inv : Inv (idle2 [.host]) :=
  ⟨by decide, by decide, by decide, by decide, trivial, by decide, by decide,
    ⟨by decide, by decide, by decide, by decide, by decide⟩, by decide⟩

theorem burst3_inv : Inv burst3 :=
  ⟨by decide, by decide, by decide, by decide, trivial, by decide, by decide,
    ⟨by decide, by decide, by decide, by decide, by decide⟩, by decide⟩

theorem toDispatch_inv : Inv toDispatch :=
  ⟨by decide, by decide, by decide, by decide, trivial, by decide, by decide,
    ⟨by decide, by decide, by decide, by decide, by decide⟩, by decide⟩

theorem block2_inv : Inv block2 :=
  ⟨by decide, by decide, by decide, by decide, by simp [SeqLegal, block2, inBlock]; decide, by decide, by decide,
    ⟨by decide, by decide, by decide, by decide, by decide⟩, by decide⟩

theorem witness_ControlWordLayoutAndRoundTrip : (0x3FFFFFFF#32).toNat < 2 ^ 30 := by decide

theorem witness_DecodeOfEncode : (Instr.moveMulti true [(0xFE#8, 0x80000000#32)]).wellFormed = true := by decide

theorem witness_EncodeOfDecode :
    decode [0x00810041#32, 0xFE#32, 0x80000000#32, 5#32] =
      some (.command (.moveMulti true [(0xFE#8, 0x80000000#32)]), [5#32]) := by decide

theorem witness_ReservedDescriptorsAreRefused :
    (∀ r ∈ opcodeRows, 0x00000101#32 &&& r.maskBits ≠ r.matchBits) ∧ (0x00010203#32).toNat / 2 ^ 16 ≠ 0 ∧
    (0x00000100#32).toNat / 2 ^ 8 ≠ 0 ∧ [1#32, 5#32, 0x00000100#32, 5#32].length = 2 * ((0x82#8).toNat % 128) ∧
    (1 < (0x82#8).toNat % 128 ∧ ([1#32, 5#32, 0x00000100#32, 5#32].getD (2 * 1) 0#32).toNat / 2 ^ 8 ≠ 0) ∧
    descLen 0x00000012#32 ≤ [0x00000012#32, 5#32].length := by decide

theorem witness_StepRunsDecodedCommand :
    let s := { idle2 [.host] with cmdBuf := [0x0000FF12#32], hostOps := [.write 0 4 500#32] }
    s.cfg.ok = true ∧ s.cmdBusy = false ∧ s.schedule = [.host] ∧ s.hostOps = [.write s.cfg.base 4 500#32] ∧
      decode (s.cmdBuf ++ [500#32]) = some (.command (.setDelay 0xFF#8 500#32), []) := by decide

/-- An illegal header, and CONFIG2's last word where its pin word has a reserved bit set. -/
theorem witness_StepRunsDecodedCommand_refused :
    decode ([] ++ [0x00000101#32]) = some (.illegalCommand, []) ∧
    decode ([0x00000002#32, 0x00010203#32] ++ [0x00010000#32]) = some (.badArgument, []) := by decide

theorem witness_FetchWordRunsTableInstruction :
    State.reset.cfg.ok = true ∧ decodeTableWord 96 0x000100000000020300000002 =
      some (.config2 0#8 3#8 2#8 0x10000#32) := by decide

theorem witness_NoCommandAndNoStepStops :
    two.cfg.ok = true ∧ { two with cfg := { two.cfg with nDev := 255 } }.cfg.ok = false := by decide

theorem witness_ResetGivesTheStatedValues :
    burst3.cfg.ok = true ∧ { burst3 with schedule := [.platformReset] }.schedule = [.platformReset] := by decide

theorem witness_ResetMeetsInvariant : Cfg.vectors.ok = true := by decide

theorem witness_StepKeepsInvariant : Inv burst3 ∧ (∃ t, step burst3 = .next t) ∧ Inv block2 ∧
    (∃ t, step block2 = .next t) ∧ Inv toDispatch ∧ ∃ t, step toDispatch = .next t :=
  ⟨burst3_inv, ⟨_, rfl⟩, block2_inv, ⟨_, rfl⟩, toDispatch_inv, _, rfl⟩

theorem witness_StepKeepsDevicesLegal : DevicesLegal toDispatch ∧ ∃ t, step toDispatch = .next t :=
  ⟨by decide, _, rfl⟩

theorem witness_StepKeepsConfigurationAndSizes : Sized burst3 ∧ (∃ t, step burst3 = .next t) ∧
    (idle2 [.platformReset]).schedule.head? = some .platformReset ∧ ∃ t, step (idle2 [.platformReset]) = .next t :=
  ⟨by decide, ⟨_, rfl⟩, rfl, _, rfl⟩

theorem witness_StepKeepsPortDisciplineAndQueues : PortDiscipline block2 ∧ QueuesBounded block2 ∧
    ∃ t, step block2 = .next t :=
  ⟨by decide, by decide, _, rfl⟩

theorem witness_StickyFaultsStayUntilReset :
    FaultBitsNamed toDispatch ∧ toDispatch.schedule.head? ≠ some .platformReset ∧ (∃ t, step toDispatch = .next t) ∧
    (idle2 [.platformReset]).schedule.head? = some .platformReset ∧ ∃ t, step (idle2 [.platformReset]) = .next t :=
  ⟨by decide, by decide, ⟨_, rfl⟩, rfl, _, rfl⟩

theorem witness_ClaimsLastUntilReset : Inv toDispatch ∧ (∃ t, step toDispatch = .next t) ∧
    toDispatch.schedule.head? ≠ some .platformReset ∧ (toDispatch.device 0).inUse = true ∧
    (toDispatch.device 0).configured = true :=
  ⟨toDispatch_inv, ⟨_, rfl⟩, by decide, by decide, by decide⟩

theorem witness_NoCommandCancelsATransfer : Inv burst3 ∧ (∃ t, exec (.setEn 0#8 false) burst3 = .next t) ∧
    (burst3.xferOf 0).active = true :=
  ⟨burst3_inv, ⟨_, rfl⟩, by decide⟩

/-- A step of a macro command, and a dispatch. -/
theorem witness_NoCommandCancelsATransfer_later : (Inv block2 ∧ ∃ t, sequencerStep block2 = some t) ∧
    Inv toDispatch ∧ ∃ t, dispatchStep toDispatch = some t :=
  ⟨⟨block2_inv, _, rfl⟩, toDispatch_inv, _, rfl⟩

/-- By a dispatch, and by the end of a MOVE_BLOCK. -/
theorem witness_RunningFallsOnlyByDispatchOrDrain :
    ((toDispatch.device 0).inUse = true ∧ (toDispatch.device 0).running = true ∧
      ((nextOf (step toDispatch)).device 0).running = false) ∧
    let s := { inBlock (.blockDrain 0 Result.ok) with schedule := [.sequencer] }
    (s.device 0).inUse = true ∧ (s.device 0).running = true ∧ ((nextOf (step s)).device 0).running = false := by
  decide

/-- A dispatch with as many re-arming answers as channels. -/
theorem witness_RunningFallsOnlyByDispatchOrDrain_rearmed :
    let s := { flagged { motor 0 with callback := .user 7#8 } with
      handlers := List.replicate 12 [.moveAsyncUser 0#8 7#8 1#32] }
    Inv s ∧ (∃ t, dispatchStep s = some t) ∧ Claimed s 0#8 ∧ (s.device 0).configured = true ∧
    (s.device 0).running = true ∧ (s.device 0).callback = .user 7#8 ∧ 1#32 ≠ 0#32 ∧ s.cfg.nCC ≤ s.handlers.length ∧
    ∀ answer ∈ s.handlers, answer = [.moveAsyncUser 0#8 7#8 1#32] :=
  ⟨⟨by decide, by decide, by decide, by decide, trivial, by decide, by decide,
    ⟨by decide, by decide, by decide, by decide, by decide⟩, by decide⟩, ⟨_, rfl⟩, by decide, by decide, by decide,
    by decide, by decide, by decide, fun _ h => List.eq_of_mem_replicate h⟩

theorem witness_PositionIsBookkeeping :
    (∃ t, exec (.moveAsyncNone 0#8 5#32) two = .next t) ∧ (two.device 0).inUse = true ∧
    (∃ t, sequencerStep block2 = some t) ∧ (∃ t, beatStep 0 burst3 = some t) ∧
    ∃ t, pulseStep 0 { two with pgq := [7#32] :: List.replicate 7 [] } = some t :=
  ⟨⟨_, rfl⟩, by decide, ⟨_, rfl⟩, ⟨_, rfl⟩, _, rfl⟩

/-- The sentinel, the first handle out of range, the first unclaimed slot, the last slot. -/
theorem witness_InvalidHandleTouchesNothing :
    [0xFF#8, 8#8, 2#8, 7#8].all (fun h => handleOf (.get h 0x7F#8) == some h && decide (¬Claimed two h)) = true ∧
    handleOf (.moveTo 0xFF#8 5#32) = some 0xFF#8 ∧ [(0#8, 5#32), (0xFF#8, 5#32)].length ≤ two.cfg.nDev ∧
    (0xFF#8, 5#32) ∈ [(0#8, 5#32), (0xFF#8, 5#32)] := by decide

/-- The primary bank, and the secondary one where the primary has none left. -/
theorem witness_AllocClaimsLeastFree :
    (AllocChoice two 2 2 2) ∧ AllocChoice { two with pgFree := [4, 5] } 2 4 2 := by
  constructor <;> exact ⟨by decide, by decide, by decide⟩

theorem witness_AllocFailsWhole :
    (∀ i < 8, ({ two with dev := List.replicate 8 (fresh 0) }.device i).inUse = true) ∧
    { two with pgFree := [] }.pgFree = [] ∧ { two with ccFree := [] }.ccFree = [] := by decide

theorem witness_AllocExhaustsAtDeviceCount :
    Cfg.vectors.ok = true ∧ Cfg.vectors.ccAvail = List.range Cfg.vectors.nCC ∧
    Cfg.vectors.pgAvail = List.range Cfg.vectors.nPG ∧ Cfg.vectors.nDev ≤ Cfg.vectors.nPG ∧
    Cfg.vectors.nDev ≤ Cfg.vectors.nCC := by decide

theorem witness_ConfigRegistersOneProgramOnce :
    Claimed (twoOf (fresh 0) (motor 1)) 0#8 ∧ ((twoOf (fresh 0) (motor 1)).device 0).configured = false ∧
    (3#8 ≠ 2#8) ∧ Claimed (twoOf (fresh 0) (motor 1)) 1#8 ∧
    ((twoOf (fresh 0) (motor 1)).device 1).configured = true := by decide

theorem witness_FieldSettersWriteOneField : Claimed two 0#8 ∧ Claimed two 1#8 := by decide

theorem witness_SetDelayRejectsThenClamps :
    Claimed two 0#8 ∧ 2 ^ 30 ≤ (0x40000000#32).toNat ∧ (0x3FFFFFFF#32).toNat < 2 ^ 30 := by decide

/-- Rate 0; rate 1 at the largest MAXRATE, whose delay is above 2^30; rate 1 at MAXRATE 100000. -/
theorem witness_SpeedSettersCheckTheDelay :
    (Claimed two 0#8 ∧ 1#32 ≠ 0#32 ∧ two.cfg.s2d ⟨(1#32).toNat, 1⟩ < 2 ^ 30) ∧
    (Claimed { two with cfg := { two.cfg with maxRate := 429496729 } } 0#8 ∧
      2 ^ 30 ≤ { two with cfg := { two.cfg with maxRate := 429496729 } }.cfg.s2d ⟨(1#32).toNat, 1⟩) := by decide

theorem witness_ConvertersReturnExactDivisions :
    two.cfg.ok = true ∧ two.cfg.numerics = .exact ∧ 1#32 ≠ 0#32 ∧ 2 ^ 30 ≤ (0x40000000#32).toNat ∧
    (0x3FFFFFFF#32).toNat < 2 ^ 30 := by decide

theorem witness_ExactRatesAreTheFormulas :
    Cfg.vectors.numerics = .exact ∧ 1 ≤ Cfg.vectors.maxRate ∧ value ⟨1, 3⟩ ≤ value ⟨1, 2⟩ ∧
    (Cfg.vectors.maxRate : ℚ) ≤ value ⟨100000, 1⟩ := by
  refine ⟨rfl, by decide, ?_, ?_⟩ <;> norm_num [value, Cfg.vectors]

theorem witness_InexactInverses :
    Cfg.vectors.numerics = .exact ∧ 1 ≤ Cfg.vectors.maxRate ∧ value ⟨100000, 1⟩ ≤ (Cfg.vectors.maxRate : ℚ) ∧
    (Cfg.vectors.maxRate : ℚ) < value ⟨100001, 1⟩ := by
  refine ⟨rfl, by decide, ?_, ?_⟩ <;> norm_num [value, Cfg.vectors]

theorem witness_GetReadsTheFieldTable :
    Claimed two 0#8 ∧ (∀ e ∈ numberTable (two.device 0), e.2 < 2 ^ 32) ∧
    (0x11 < (0x12#8).toNat ∧ (0x12#8).toNat < 0x80) ∧ (0x11 < (0x7F#8).toNat ∧ (0x7F#8).toNat < 0x80) ∧
    (0x80 ≤ (0x80#8).toNat ∧ 1#8 ≠ 0#8) ∧ (0x80 ≤ (0x83#8).toNat ∧ 0x82 < (0x83#8).toNat) := by decide

theorem witness_StackCommandsPushAndPop :
    let s := { twoOf { motor 0 with stack := [1#32, 2#32] } (motor 1) with
      cfg := { Cfg.vectors with stackDepth := some 2 } }
    Claimed s 0#8 ∧ Claimed s 1#8 ∧ 2 ^ 30 ≤ (0x40000000#32).toNat ∧ (0x3FFFFFFF#32).toNat < 2 ^ 30 ∧
    (∀ n ∈ s.cfg.stackDepth, (s.device 1).stack.length < n) ∧
    (∃ n, n ∈ s.cfg.stackDepth ∧ n ≤ (s.device 0).stack.length) ∧ (s.device 0).stack = [1#32] ++ [2#32] ∧
    (s.device 1).stack = [] :=
  ⟨by decide, by decide, by decide, by decide, by decide, ⟨2, rfl, by decide⟩, rfl, rfl⟩

/-- Room for exactly three values, none stored yet; room for exactly one more. -/
theorem witness_StackIsLastInFirstOut :
    let s := { two with cfg := { Cfg.vectors with stackDepth := some 3 } }
    let s2 := { twoOf { motor 0 with stack := [1#32, 2#32] } (motor 1) with
      cfg := { Cfg.vectors with stackDepth := some 3 } }
    (Claimed s 0#8 ∧ (0x3FFFFFFF#32).toNat < 2 ^ 30 ∧ (s.device 0).stack = [] ∧
      ∀ n ∈ s.cfg.stackDepth, (s.device 0).stack.length + 3 ≤ n) ∧
    Claimed s2 0#8 ∧ ∀ n ∈ s2.cfg.stackDepth, (s2.device 0).stack.length < n := by decide

theorem witness_OneDeviceCommandsTouchOneDevice :
    handleOf (.moveAsyncRamp 0#8 5#32) = some 0#8 ∧ (∃ t, exec (.moveAsyncRamp 0#8 5#32) two = .next t) ∧
    1 ≠ (0#8).toNat ∧ 1 ≠ (two.device 0).ccChan :=
  ⟨rfl, ⟨_, rfl⟩, by decide, by decide⟩

theorem witness_MoveAsyncArmsOrIsNoOp :
    (Claimed two 0#8 ∧ (two.device 0).configured = true ∧ (two.device 0).running = false ∧ 0xFFFFFFFF#32 ≠ 0#32) ∧
    (Claimed (twoOf (fresh 0) (motor 1)) 0#8 ∧ ((twoOf (fresh 0) (motor 1)).device 0).configured = false) ∧
    (Claimed burst3 0#8 ∧ (burst3.device 0).configured = true ∧ (burst3.device 0).running = true) := by decide

/-- A beat that is not the last, the last one, a full queue, a channel not armed; a word to pulse, and none. -/
theorem witness_BeatAndPulseMoveOneWord :
    ((burst3.xferOf 0).active = true ∧ (burst3.queue 0).length < burst3.cfg.qDepth ∧ (burst3.xferOf 0).count ≠ 1#32 ∧
      (burst3.xferOf 0).count ≠ 0#32) ∧
    ((armed 1#32 .none).xferOf 0).count = 1#32 ∧
    two.cfg.qDepth ≤ ({ two with pgq := [7#32, 7#32, 7#32, 7#32] :: List.replicate 7 [] }.queue 0).length ∧
    (two.xferOf 0).active = false ∧ two.queue 0 = [] ∧
    { two with pgq := [7#32] :: List.replicate 7 [] }.queue 0 = [7#32] := by decide

theorem witness_BurstEmitsExactlyItsSteps : Inv burst3 ∧ ¬Faulted burst3 ∧ (burst3.xferOf 0).active = true ∧
    (burst3.xferOf 0).count = BitVec.ofNat 32 3 ∧ burst3.queue (burst3.device (burst3.xferOf 0).slot).pgChan = [] ∧
    burst3.schedule = (List.replicate 3
      [Agent.burst 0, Agent.pulseGen (burst3.device (burst3.xferOf 0).slot).pgChan]).flatten :=
  ⟨burst3_inv, by decide, by decide, by decide, by decide, by decide⟩

theorem witness_LiveUpdateReachesNextBeat : Inv burst3 ∧ Claimed burst3 0#8 ∧ (burst3.xferOf 0).active = true ∧
    (burst3.xferOf 0).slot = (0#8).toNat ∧ (0x3FFFFFFF#32).toNat < 2 ^ 30 ∧
    (burst3.queue (burst3.device 0).pgChan).length < burst3.cfg.qDepth :=
  ⟨burst3_inv, by decide, by decide, by decide, by decide, by decide⟩

theorem witness_MoveBlockChecksThenStarts :
    (Claimed (twoOf (fresh 0) (motor 1)) 0#8 ∧ ((twoOf (fresh 0) (motor 1)).device 0).configured = false) ∧
    (Claimed burst3 0#8 ∧ (burst3.device 0).configured = true ∧ (burst3.device 0).running = true) ∧
    (Claimed two 0#8 ∧ (two.device 0).configured = true ∧ (two.device 0).running = false) ∧
    2 ^ 30 ≤ (0x40000000#32).toNat ∧ (0x3FFFFFFF#32).toNat < 2 ^ 30 := by decide

/-- A push at both ends of the range, a full queue, a ramp just below and just above the range, no word left, a drain
that waits and one that ends. -/
theorem witness_MoveBlockSequencerSteps :
    ((inBlock (.block 0 (0 + 1) 0 true (-1))).seq = .block 0 (0 + 1) 0 true (-1) ∧ (0 : Int) < 2 ^ 30 ∧
      (0 : Int) ≤ 2 ^ 30 - 1 ∧ ((inBlock .idle).queue 0).length < (inBlock .idle).cfg.qDepth) ∧
    (inBlock .idle).cfg.qDepth ≤
      ({ inBlock .idle with pgq := [7#32, 7#32, 7#32, 7#32] :: List.replicate 7 [] }.queue 0).length ∧
    ((-1 : Int) < 0 ∧ (2 : Int) ^ 30 ≤ 2 ^ 30) ∧
    (inBlock (.block 0 0 5 false 0)).seq = .block 0 0 5 false 0 ∧
    ((inBlock (.blockDrain 0 Result.ok)).queue ((inBlock .idle).device 0).pgChan = [] ∧
      { inBlock (.blockDrain 0 Result.ok) with pgq := [7#32] :: List.replicate 7 [] }.queue 0 ≠ []) := by decide

theorem witness_MoveBlockStreamsTheLinearRamp : Inv block2 ∧ ¬Faulted block2 ∧ (block2.device 0).inUse = true ∧
    block2.seq = .block 0 2 900 true (-10) ∧
    (∀ k : Nat, k < 2 → (0 : Int) ≤ 900 + k * (-10) ∧ (900 : Int) + k * (-10) < 2 ^ 30) ∧
    block2.queue (block2.device 0).pgChan = [] ∧
    block2.schedule = (List.replicate 2 [Agent.sequencer, Agent.pulseGen (block2.device 0).pgChan]).flatten ++
      [Agent.sequencer, Agent.sequencer] :=
  ⟨block2_inv, by decide, by decide, by decide, by intro k hk; omega, by decide, by decide⟩

theorem witness_WaitsHaveOneWayOut :
    Claimed two 0#8 ∧ ((inMacro (.waitIdle 0)).seq = .waitIdle 0 ∧ ((inMacro (.waitIdle 0)).device 0).running = false) ∧
    (burst3.device 0).running = true ∧ (inMacro (.toWait 0 .accel 4 0 5)).seq = .toWait 0 .accel 4 0 5 ∧
    ((inMacro (.multiWait (ctx0 true 100 400) .accel 2 1 [0])).seq = .multiWait (ctx0 true 100 400) .accel 2 1 [0] ∧
      1 < (ctx0 true 100 400).axes.length) ∧
    (inMacro (.multiWait (ctx0 false 100 400) .remainder 0 2 [0, 1])).seq =
      .multiWait (ctx0 false 100 400) .remainder 0 2 [0, 1] ∧
    (ctx0 false 100 400).axes.length ≤ 2 ∧ ∃ t, sequencerStep (inMacro (.multiWait (ctx0 false 100 400) .decel 1 2 [0, 1])) =
      some t :=
  ⟨by decide, by decide, by decide, by decide, by decide, by decide, by decide, _, rfl⟩

theorem witness_RampCallbackCases :
    let on := fun d : Device => twoOf d (motor 1)
    (∀ d : Device, (on d).cfg.ok = true ∧ 0 < (on d).dev.length ∧ (on d).cfg.numerics = .exact ∧ (on d).device 0 = d) ∧
    (motor 0).accelDir = .coast ∧
    ((braking [990#32] 2#32).movAccNum ≠ 0#64 ∧ (braking [990#32] 2#32).accelDir = .down ∧
      (braking [990#32] 2#32).coastingSlices ≠ 0#32) ∧
    ((braking [990#32, 323#32] 0#32).movAccNum ≠ 0#64 ∧ (braking [990#32, 323#32] 0#32).accelDir = .down ∧
      (braking [990#32, 323#32] 0#32).coastingSlices = 0#32 ∧
      (braking [990#32, 323#32] 0#32).stack = [990#32] ++ [323#32] ∧ (323#32).toNat < 2 ^ 30) ∧
    ((braking [] 0#32).stack = [] ∧ (braking [] 0#32).coastingSlices = 0#32) ∧
    ((ramping 990#32).movAccNum ≠ 0#64 ∧ (ramping 990#32).accelDir = .up ∧ 1 ≤ (ramping 990#32).movAccDen.toNat ∧
      (ramping 990#32).maxSpeed = some 50000#32 ∧ (ramping 990#32).delay.toNat < 2 ^ 30 ∧
      two.cfg.s2d ⟨(50000#32).toNat, 1⟩ < 2 ^ 30) ∧
    { ramping 990#32 with maxSpeed := none }.maxSpeed = none :=
  ⟨fun _ => ⟨(by decide : Cfg.vectors.ok = true), Nat.succ_pos _, rfl, rfl⟩, by decide⟩

/-- The delays at which the two accelerating clauses meet: 11 gives 10, the cap, a coast; 12 gives 11, a push. -/
theorem witness_RampCallbackCases_meet :
    (rampTarget two (ramping 11#32) ≤ (two.cfg.s2d ⟨(50000#32).toNat, 1⟩ : Int) ∧
      (ramping 11#32).coastingSlices ≠ 0xFFFFFFFF#32) ∧
    ((two.cfg.s2d ⟨(50000#32).toNat, 1⟩ : Int) < rampTarget two (ramping 12#32) ∧
      ∀ n ∈ two.cfg.stackDepth, (ramping 12#32).stack.length < n) := by decide

/-- A full stack of two where a push is due, and the last value of the coast counter where a coast is. -/
theorem witness_RampCallbackCases_full :
    let d := { ramping 990#32 with stack := [7#32, 5#32] }
    let s := { twoOf d (motor 1) with cfg := { Cfg.vectors with stackDepth := some 2 } }
    (s.cfg.ok = true ∧ 0 < s.dev.length ∧ s.cfg.numerics = .exact ∧ d.movAccNum ≠ 0#64 ∧ d.maxSpeed = some 50000#32 ∧
      (s.cfg.s2d ⟨(50000#32).toNat, 1⟩ : Int) < rampTarget s d ∧ ∃ n, n ∈ s.cfg.stackDepth ∧ n ≤ d.stack.length) ∧
    rampTarget two { ramping 11#32 with coastingSlices := 0xFFFFFFFF#32 } ≤ (two.cfg.s2d ⟨(50000#32).toNat, 1⟩ : Int) :=
  ⟨⟨by decide, by decide, rfl, by decide, rfl, by decide, 2, rfl, by decide⟩, by decide⟩

theorem witness_ExactRampNeverStallsAboveZero :
    Cfg.vectors.ok = true ∧ Cfg.vectors.numerics = .exact ∧ (0 : Nat) < 20000 ∧ (0 : Nat) < 1 := by decide

theorem witness_DecelerationMirrorsAcceleration :
    let s := twoOf (ramping 990#32) (motor 1)
    s.cfg.ok = true ∧ ¬Faulted s ∧ 0 < s.dev.length ∧ s.cfg.numerics = .exact ∧ s.cfg.stackDepth = none ∧
    DelayInRange s.cfg (s.device 0).delay ∧ CommandCurrent (s.device 0) ∧ (s.device 0).stack = [] ∧
    (s.device 0).coastingSlices = 0#32 ∧ (s.device 0).accelDir = .up ∧ (s.device 0).movAccNum ≠ 0#64 ∧
    1 ≤ (s.device 0).movAccDen.toNat ∧ (s.device 0).maxSpeed = some 50000#32 ∧
    s.cfg.minDelay ≤ s.cfg.s2d ⟨(50000#32).toNat, 1⟩ ∧ s.cfg.s2d ⟨(50000#32).toNat, 1⟩ < 2 ^ 30 ∧
    0 < ((iterate (accelCallback 0) 1 s).device 0).stack.length := by decide

theorem witness_MoveToChecksThenStarts :
    (Claimed two 0#8 ∧ (two.device 0).configured = true ∧ (two.device 0).minSpeed = some 1000#32 ∧
      (two.device 0).maxSpeed ≠ none ∧ (two.device 0).running = false ∧
      two.cfg.s2d ⟨(1000#32).toNat, 1⟩ < 2 ^ 30) ∧
    (Claimed burst3 0#8 ∧ (burst3.device 0).configured = true ∧ (burst3.device 0).minSpeed ≠ none ∧
      (burst3.device 0).maxSpeed ≠ none ∧ (burst3.device 0).running = true) ∧
    (Claimed (twoOf (fresh 0) (motor 1)) 0#8 ∧ ((twoOf (fresh 0) (motor 1)).device 0).configured = false) := by decide

theorem witness_MoveToSequencerSteps :
    (inMacro (.to 0 .accel (4 + 1) 0 5)).seq = .to 0 .accel (4 + 1) 0 5 ∧ Phase.decel ≠ Phase.remainder ∧
    ((inMacro .idle).device 0).configured = true ∧ ((inMacro .idle).device 0).running = false ∧
    1 ≤ (inMacro .idle).cfg.numSteps ∧ (burst3.device 0).running = true ∧
    (inMacro (.to 0 .accel 0 50 1)).seq = .to 0 .accel 0 50 1 ∧
    (inMacro (.to 0 .remainder 0 (49 + 1) 1)).seq = .to 0 .remainder 0 (49 + 1) 1 ∧
    (inMacro (.to 0 .remainder 0 0 5)).seq = .to 0 .remainder 0 0 5 ∧
    (inMacro (.to 0 .decel 0 0 5)).seq = .to 0 .decel 0 0 5 := by decide

/-- The device started by a handler before a ramp burst and before the remainder; a slot without a program. -/
theorem witness_MoveToSequencerSteps_refused :
    let busy := fun q : Seq => { burst3 with seq := q, cmdBusy := true }
    ((busy (.to 0 .decel (1 + 1) 0 2)).seq = .to 0 .decel (1 + 1) 0 2 ∧
      ((busy (.to 0 .decel (1 + 1) 0 2)).device 0).running = true) ∧
    ((busy (.to 0 .remainder 0 (49 + 1) 1)).seq = .to 0 .remainder 0 (49 + 1) 1 ∧
      ((busy (.to 0 .remainder 0 (49 + 1) 1)).device 0).running = true) ∧
    ((twoOf (fresh 0) (motor 1)).device 0).configured = false := by decide

/-- V-TO-3's 350 steps, an odd number of slices. -/
theorem witness_MoveToDispatchesItsBursts :
    let s := inMacro (.to 0 .accel 1 50 1)
    s.cfg.ok = true ∧ ¬Faulted s ∧ (s.device 0).inUse = true ∧ (s.device 0).configured = true ∧
    (s.device 0).running = false ∧ (s.device 0).ccChan < s.xfer.length ∧ 350 < 2 ^ 32 ∧
    s.seq = .to 0 .accel (350 / s.cfg.numSteps / 2) (350 % s.cfg.numSteps) (350 / s.cfg.numSteps / 2) := by decide

theorem witness_MoveMultiChecksInOrder :
    two.cfg.nDev < (List.replicate 9 (0#8, 5#32)).length ∧
    ([(0#8, 5#32), (0xFF#8, 5#32)].length ≤ two.cfg.nDev ∧ ∃ a ∈ [(0#8, 5#32), (0xFF#8, 5#32)], ¬Claimed two a.1) ∧
    ((∀ a ∈ [(0#8, 5#32), (0#8, 6#32)], Claimed two a.1) ∧ ¬([(0#8, 5#32), (0#8, 6#32)].map Prod.fst).Nodup) ∧
    ((∀ a ∈ [(0#8, 0#32), (1#8, 0#32)], Claimed two a.1 ∧ a.2 = (two.device a.1.toNat).position) ∧
      ([(0#8, 0#32), (1#8, 0#32)].map Prod.fst).Nodup) :=
  ⟨by decide, ⟨by decide, (0xFF#8, 5#32), by decide, by decide⟩, ⟨by simp; decide, by decide⟩, by simp; decide, by decide⟩

/-- The last two clauses: an axis not configured, an axis running. -/
theorem witness_MoveMultiChecksInOrder_last :
    ((∀ a ∈ [(0#8, 5#32), (1#8, 0#32)], Claimed (twoOf (motor 0) (fresh 1)) a.1) ∧
      ([(0#8, 5#32), (1#8, 0#32)].map Prod.fst).Nodup ∧ 5#32 ≠ ((twoOf (motor 0) (fresh 1)).device 0).position ∧
      ((twoOf (motor 0) (fresh 1)).device 1).configured = false) ∧
    (∀ a ∈ [(0#8, 5#32), (1#8, 5#32)], Claimed burst3 a.1 ∧ (burst3.device a.1.toNat).configured = true ∧
      (burst3.device a.1.toNat).minSpeed ≠ none ∧ (burst3.device a.1.toNat).maxSpeed ≠ none) ∧
    ([(0#8, 5#32), (1#8, 5#32)].map Prod.fst).Nodup ∧ 5#32 ≠ (burst3.device 0).position ∧
    (burst3.device 0).running = true :=
  ⟨⟨by simp; decide, by decide, by decide, by decide⟩, by simp; decide, by decide, by decide, by decide⟩

theorem witness_MoveMultiStartsEveryAxis :
    let axes : List (Byte × Word) := [(0#8, 4000#32), (1#8, 2000#32)]
    axes.length ≤ two.cfg.nDev ∧
    (∀ a ∈ axes, Claimed two a.1 ∧ (two.device a.1.toNat).configured = true ∧ (two.device a.1.toNat).running = false ∧
      (∃ m, (two.device a.1.toNat).minSpeed = some m ∧ two.cfg.rateDelay m < 2 ^ 30) ∧
      (two.device a.1.toNat).maxSpeed ≠ none) ∧
    (axes.map Prod.fst).Nodup ∧ ∃ a ∈ axes, a.2 ≠ (two.device a.1.toNat).position := by
  refine ⟨by decide, ?_, by decide, by decide⟩
  intro a ha
  simp only [List.mem_cons, List.not_mem_nil, or_false] at ha
  rcases ha with rfl | rfl <;> exact ⟨by decide, by decide, by decide, ⟨1000#32, by decide, by decide⟩, by decide⟩

theorem witness_MoveMultiSequencerSteps :
    ((inMacro (.multi (ctx0 true 100 400) .accel (1 + 1) 0 [])).seq = .multi (ctx0 true 100 400) .accel (1 + 1) 0 [] ∧
      (ctx0 true 100 400).axes[0]? = some ⟨0, 400, 100, 400⟩ ∧ two.cfg.minSlice < 100 ∧
      (ctx0 true 100 400).sequential = true) ∧
    ((ctx0 false 0 400).axes[0]? = some ⟨0, 400, 0, 400⟩ ∧ 0 ≤ two.cfg.minSlice ∧ 0 + 1 < (ctx0 false 0 400).axes.length ∧
      1 + 1 = (ctx0 false 0 400).axes.length) ∧
    ((two.device 0).configured = true ∧ (two.device 0).running = false) ∧
    ((0 : Int) ≤ 0 ∧ (2 : Int) ^ 32 - 1 < 2 ^ 32 ∧ (0 : Int) < 1 ∧ (2 : Int) ^ 32 - 1 ≤ 2 ^ 32 - 1) ∧
    ((ctx0 false 100 0).axes[0]? = some ⟨0, 400, 100, 0⟩ ∧
      (ctx0 false 100 (2 ^ 32)).axes[0]? = some ⟨0, 400, 100, 2 ^ 32⟩) ∧
    (((ctx0 false 100 0).axes.map Axis.slot).Nodup ∧ ∀ a ∈ (ctx0 false 100 0).axes, a.slot < two.dev.length) ∧
    (inMacro (.multi (ctx0 true 100 0) .decel 0 0 [])).seq = .multi (ctx0 true 100 0) .decel 0 0 [] := by decide

/-- A device started by a handler before its axis's ramp burst and before its remainder; the last axis. -/
theorem witness_MoveMultiSequencerSteps_refused :
    let busy := fun q : Seq => { burst3 with seq := q, cmdBusy := true }
    ((busy (.multi (ctx0 true 100 400) .decel (1 + 1) 0 [])).seq = .multi (ctx0 true 100 400) .decel (1 + 1) 0 [] ∧
      (ctx0 true 100 400).axes[0]? = some ⟨0, 400, 100, 400⟩ ∧ two.cfg.minSlice < 100 ∧
      ((busy .idle).device 0).running = true) ∧
    ((busy (.multi (ctx0 false 100 1) .remainder 0 0 [])).seq = .multi (ctx0 false 100 1) .remainder 0 0 [] ∧
      (ctx0 false 100 1).axes[0]? = some ⟨0, 400, 100, 1⟩ ∧ (0 : Int) < 1) ∧
    (ctx0 true 100 1).axes.length ≤ 1 + 1 ∧ 0 + 1 < (ctx0 true 100 1).axes.length := by decide

theorem witness_MultiContextHalvesFitTheDistance :
    two.cfg.ok = true ∧ (two.multiCtx false (axisTargets [(0#8, 1999#32), (1#8, 0#32)])).axes ≠ [] := by decide

/-- A fair order of the agents but the host and reset: every one of them infinitely often. -/
def fairChosen (n : Nat) : Agent :=
  match n.unpair.1 with
  | 0 => .dispatcher
  | 1 => .sequencer
  | k + 2 => if k % 2 = 0 then .burst (k / 2) else .pulseGen (k / 2)

/-- The run from a state in that order, with what the outside has in store at each instant. -/
def fairRun (out : Outside) (s : State) : Nat → State
  | 0 => s
  | n + 1 =>
    match agentStep (fairChosen n) (out.supply n (fairRun out s n)) with
    | some o => nextOf o
    | none => out.supply n (fairRun out s n)

/-- An outside that has nothing in store. -/
def quiet : Outside := ⟨fun _ => [], fun _ => []⟩

/-- An oracle that answers every call by re-arming device 0 (V-IRQ-3, for ever). -/
def rearming : Outside := ⟨fun _ => [], fun _ => [[.moveAsyncUser 0#8 7#8 1#32]]⟩

theorem fairChosen_fair (out : Outside) (run : Nat → State) (a : Agent) (k : Nat)
    (h : ∀ n, fairChosen (Nat.pair k n) = a) : FairFor out run fairChosen a :=
  fun n _ => ⟨Nat.pair k n, Nat.right_le_pair k n, h n⟩

theorem fairChosen_allFair (out : Outside) (run : Nat → State) :
    Fair out run fairChosen ∧ PgLive out run fairChosen := by
  refine ⟨⟨fairChosen_fair _ _ _ 1 ?_, fairChosen_fair _ _ _ 0 ?_, fun c => fairChosen_fair _ _ _ (2 * c + 2) ?_⟩,
    fun p => fairChosen_fair _ _ _ (2 * p + 3) ?_⟩
  · intro n
    simp [fairChosen]
  · intro n
    simp [fairChosen]
  · intro n
    simp [fairChosen]
  · intro n
    have h : (2 * p + 1) / 2 = p := by omega
    simp [fairChosen, h]

/-- The order takes a dispatch, a sequencer step, a beat or a pulse, never the host or a reset. -/
theorem fairChosen_cases (n : Nat) : fairChosen n = .dispatcher ∨ fairChosen n = .sequencer ∨
    (∃ c, fairChosen n = .burst c) ∨ ∃ p, fairChosen n = .pulseGen p := by
  unfold fairChosen
  split
  · simp
  · simp
  · split <;> simp

theorem fairRun_isRun (out : Outside) (s : State) : IsRun out (fairRun out s) fairChosen := by
  intro n
  have hm : ∀ o : Option State, o.map (Host.Outcome.next (φ := Fault) (ρ := Refusal)) = none ∨
      ∃ t, o.map (Host.Outcome.next (φ := Fault) (ρ := Refusal)) = some (.next t) := by
    intro o
    cases o with
    | none => exact .inl rfl
    | some t => exact .inr ⟨t, rfl⟩
  have hs : ∀ s : State, agentStep (fairChosen n) s = none ∨ ∃ t, agentStep (fairChosen n) s = some (.next t) := by
    intro s
    rcases fairChosen_cases n with h | h | ⟨c, h⟩ | ⟨p, h⟩ <;> rw [h] <;> exact hm _
  rcases hs (out.supply n (fairRun out s n)) with h | ⟨t, h⟩
  · exact .inr ⟨h, by simp [fairRun, h]⟩
  · exact .inl (by simp [fairRun, h, nextOf])

theorem witness_ArmedTransferIsDispatched :
    IsRun quiet (fairRun quiet burst3) fairChosen ∧ Fair quiet (fairRun quiet burst3) fairChosen ∧
    PgLive quiet (fairRun quiet burst3) fairChosen ∧ (∀ n, fairChosen n ≠ .platformReset) ∧
    Inv (fairRun quiet burst3 0) ∧ ((fairRun quiet burst3 0).xferOf 0).active = true := by
  refine ⟨fairRun_isRun _ _, (fairChosen_allFair _ _).1, (fairChosen_allFair _ _).2, fun n => ?_, burst3_inv, by decide⟩
  rcases fairChosen_cases n with h | h | ⟨c, h⟩ | ⟨p, h⟩ <;> simp [h]

/-! ## 70_reset_and_hazards.md R315: a handler that re-arms in every dispatch starves a wait -/

/-- Device 0 in a burst with a USER callback, the thread in WAIT_IDLE on it. -/
def starving : State := { armed 1#32 (.user 7#8) with seq := .waitIdle 0, cmdBusy := true }

theorem starving_inv : Inv starving :=
  ⟨by decide, by decide, by decide, by decide, by simp [SeqLegal, starving, armed]; decide, by decide, by decide,
    ⟨by decide, by decide, by decide, by decide, by decide⟩, by decide⟩

/-- What the run keeps of `starving`. -/
structure Starved (s : State) : Prop where
  cfg : s.cfg = starving.cfg
  dev : s.dev = starving.dev
  chanMap : s.chanMap = starving.chanMap
  enable : s.irqEnable = 3#32
  seq : s.seq = .waitIdle 0
  flags : s.irqFlags = 0#32 ∨ s.irqFlags = 1#32
  armed : ∀ c, (s.xferOf c).active = true → c = 0

/-- A dispatch of channel 0, whose handler re-arms its device. -/
theorem starved_dispatch {s t : State} (h : Starved s) (ha : s.handlers = [[.moveAsyncUser 0#8 7#8 1#32]])
    (ht : dispatchStep s = some t) : Starved t := by
  obtain ⟨cfg, dev, chanMap, ccFree, pgFree, irqFlags, irqEnable, fault, seq, cmdBusy, result, cmdBuf, xfer, pgq,
    pulseLog, schedule, hostOps, hostLog, handlers, handlerLog, freeIx⟩ := s
  obtain ⟨rfl, rfl, rfl, rfl, rfl, rfl | rfl, harmed⟩ := h
  · exact absurd ((dispatchStep_some_iff _ _).1 ht).1 (by simp [State.irqLine, State.pending])
  · obtain rfl : handlers = [[.moveAsyncUser 0#8 7#8 1#32]] := ha
    have hpend : channelsIn (1#32 &&& 3#32) 12 = [0] := by decide
    have hdone : dispatchStep (State.mk starving.cfg starving.dev starving.chanMap ccFree pgFree 1#32 3#32
        fault (.waitIdle 0) cmdBusy result cmdBuf xfer pgq pulseLog schedule hostOps hostLog
        [[.moveAsyncUser 0#8 7#8 1#32]] handlerLog freeIx) =
      some (State.mk starving.cfg starving.dev starving.chanMap ccFree pgFree 0#32 3#32
        fault (.waitIdle 0) cmdBusy result cmdBuf (xfer.set 0 ⟨1#32, true, 0⟩) pgq pulseLog schedule hostOps hostLog []
        (handlerLog ++ [.call 7#8 0] ++ [.result Result.ok]) freeIx) := by
      refine (dispatchStep_some_iff _ _).2 ⟨by simp [State.irqLine, State.pending], ?_⟩
      simp only [State.pending, show starving.cfg.nCC = 12 from rfl, hpend, List.foldl_cons, List.foldl_nil]
      simp [completeChannel, State.slotOf, starving, armed, twoOf, State.reset, State.resetOf, State.completeDevice,
        runCallback, State.device, State.modDevice, State.setDevice, runHandler, handlerStep, handlerCommand,
        moveAsyncCmd, withHandle, State.validHandle, invalidDevice, Cfg.vectors, State.startBurst, motor, State.setXfer,
        wordOf]
    obtain rfl := Option.some.inj (hdone.symm.trans ht)
    refine ⟨rfl, rfl, rfl, rfl, rfl, .inl rfl, fun c hc => ?_⟩
    by_contra hn
    refine hn (harmed c ?_)
    simpa [State.xferOf, List.getD_eq_getElem?_getD, List.getElem?_set_ne (Ne.symm hn)] using hc

theorem starved_step {s t : State} {a : Agent} (h : Starved s) (ha : s.handlers = [[.moveAsyncUser 0#8 7#8 1#32]])
    (hc : a = .dispatcher ∨ a = .sequencer ∨ (∃ c, a = .burst c) ∨ ∃ p, a = .pulseGen p)
    (ht : agentStep a s = some (.next t)) : Starved t := by
  have hmap : ∀ o : Option State, o.map (Host.Outcome.next (φ := Fault) (ρ := Refusal)) = some (.next t) → o = some t := by
    intro o ho
    cases o with
    | none => simp at ho
    | some u => simpa using ho
  rcases hc with rfl | rfl | ⟨c, rfl⟩ | ⟨p, rfl⟩
  · exact starved_dispatch h ha (hmap _ ht)
  · have hd : (s.device 0).running = true := by rw [State.device, h.dev]; rfl
    simp [agentStep, sequencerStep, h.seq, waitIdleStep, hd] at ht
  · obtain ⟨hact, -, hu⟩ := (beatStep_some_iff c s t).1 (hmap _ ht)
    obtain rfl := h.armed c hact
    have hset : ∀ x : Xfer, ∀ c, ((s.xfer.set 0 x).getD c Xfer.reset).active = true → c = 0 := by
      intro x c hc
      by_contra hn
      refine hn (h.armed c ?_)
      simpa [State.xferOf, List.getD_eq_getElem?_getD, List.getElem?_set_ne (Ne.symm hn)] using hc
    subst hu
    split
    · refine ⟨h.cfg, h.dev, h.chanMap, h.enable, h.seq, .inr ?_, hset _⟩
      rcases h.flags with hf | hf <;>
        simp [State.setIrqFlag, State.setXfer, State.writePGQ, State.setQueue, hf, bitAt]
    · exact ⟨h.cfg, h.dev, h.chanMap, h.enable, h.seq, h.flags, hset _⟩
  · obtain ⟨w, rest, -, rfl⟩ := (pulseStep_some_iff p s t).1 (hmap _ ht)
    exact ⟨h.cfg, h.dev, h.chanMap, h.enable, h.seq, h.flags, h.armed⟩

/-- In a fair run with live pulse generators whose oracle re-arms device 0 in every dispatch, the device runs at every
instant and the WAIT_IDLE on it never proceeds (R315, 43_step_engine.md R199). -/
theorem test_rearming_starves_wait :
    IsRun rearming (fairRun rearming starving) fairChosen ∧ Fair rearming (fairRun rearming starving) fairChosen ∧
    PgLive rearming (fairRun rearming starving) fairChosen ∧ Inv (fairRun rearming starving 0) ∧
    ∀ n, ((fairRun rearming starving n).device 0).running = true ∧ (fairRun rearming starving n).seq = .waitIdle 0 := by
  refine ⟨fairRun_isRun _ _, (fairChosen_allFair _ _).1, (fairChosen_allFair _ _).2, starving_inv, fun n => ?_⟩
  have hst : Starved (fairRun rearming starving n) := by
    induction n with
    | zero =>
      refine ⟨rfl, rfl, rfl, rfl, rfl, .inl rfl, fun c hc => ?_⟩
      by_contra hn
      match c with
      | 0 => exact hn rfl
      | 1 => exact absurd hc (by decide)
      | k + 2 =>
        have hx : ∀ k, ((List.replicate 10 Xfer.reset).getD k Xfer.reset).active = false := by
          intro k
          simp only [List.getD_eq_getElem?_getD, List.getElem?_replicate]
          split <;> rfl
        have hc' : ((List.replicate 10 Xfer.reset).getD k Xfer.reset).active = true := hc
        rw [hx k] at hc'
        cases hc'
    | succ n ih =>
      have hsup : Starved (rearming.supply n (fairRun rearming starving n)) :=
        ⟨ih.cfg, ih.dev, ih.chanMap, ih.enable, ih.seq, ih.flags, ih.armed⟩
      rcases fairRun_isRun rearming starving n with h | ⟨-, h⟩
      · exact starved_step hsup rfl (fairChosen_cases n) h
      · rw [h]
        exact hsup
  exact ⟨by rw [State.device, hst.dev]; rfl, hst.seq⟩

/-- A dispatch of a ramp callback on an accelerating device with its maximum speed set. -/
theorem witness_UnsetAndUnmappedFaultsAreUnreachable_step :
    let s := { flagged { ramping 990#32 with callback := .ramp } with schedule := [.dispatcher] }
    Inv s ∧ CapsSet s ∧ (s.device 0).accelDir = .up ∧ ∃ t, step s = .next t :=
  ⟨⟨by decide, by decide, by decide, by decide, trivial, by decide, by decide,
    ⟨by decide, by decide, by decide, by decide, by decide⟩, by decide⟩, by decide, by decide, _, rfl⟩

/-- A state with a claimed device, reached from reset by an ALLOC. -/
theorem witness_UnsetAndUnmappedFaultsAreUnreachable :
    Cfg.vectors.ok = true ∧ ∃ s, Reachable Cfg.vectors s ∧ (s.device 0).inUse = true :=
  ⟨by decide, _, .step _ _ (.outside _ [.host] [.write 0 4 1#32] [] .reset) rfl, by decide⟩

theorem witness_DispatchServesFlagsAscending :
    toDispatch.irqFlags &&& toDispatch.irqEnable ≠ 0#32 ∧ [0].Pairwise (· < ·) ∧
    (∀ c, c ∈ [0] ↔ c < toDispatch.cfg.nCC ∧ toDispatch.irqFlags.getLsbD c = true ∧
      toDispatch.irqEnable.getLsbD c = true) ∧
    two.slotOf 2 = none ∧ two.slotOf 1 = some 1 ∧ 1 < two.dev.length ∧ (two.device 1).callback = .none ∧
    (toDispatch.device 0).callback = .ramp ∧
    ((flagged { motor 0 with callback := .user 7#8 }).device 0).callback = .user 7#8 := by
  have small : ∀ c < 12, c ∈ [0] ↔ c < toDispatch.cfg.nCC ∧ toDispatch.irqFlags.getLsbD c = true ∧
      toDispatch.irqEnable.getLsbD c = true := by decide
  refine ⟨by decide, by decide, fun c => ?_, by decide⟩
  by_cases h : c < 12
  · exact small c h
  · have hc : ¬c < toDispatch.cfg.nCC := h
    simp [hc]
    omega

theorem witness_DispatchLeavesThePortAlone : ∃ t, dispatchStep toDispatch = some t := ⟨_, rfl⟩

theorem witness_HandlerContextRunsSimpleCommands :
    (Instr.moveMulti false []).isMacro = true ∧ Instr.alloc.isMacro = false := by decide

/-- Busy, free with a descriptor not yet whole; one byte off, one word past the window, one byte wide. -/
theorem witness_HostWindowAccesses :
    (inMacro (.waitIdle 0)).cmdBusy = true ∧ (two.cmdBusy = false ∧ decode (two.cmdBuf ++ [0x00000012#32]) = none) ∧
    (0x01 - two.cfg.base) % 4 ≠ 0 ∧ two.cfg.base + 0x1C < 0x20 ∧ 1 ≠ 4 := by decide

/-- P3's move, whose axes ramp; an axis below a threshold of 50, credited; and a threshold above every slice count,
whose credit at 2^32 − 1 steps does not fit. -/
theorem witness_MoveMultiDispatchesItsBursts :
    let axes : List (Byte × Word) := [(0#8, 4000#32), (1#8, 2000#32)]
    let far : List (Byte × Word) := [(0#8, 0x7FFFFFFF#32), (1#8, 2000#32)]
    let low := { twoOf { motor 0 with position := 0x80000000#32 } (motor 1) with
      cfg := { Cfg.vectors with minSlice := 200 } }
    Inv (idle2 [.host]) ∧ ¬Faulted (idle2 [.host]) ∧ axes.length ≤ (idle2 [.host]).cfg.nDev ∧
    axes.all (fun a => decide (Claimed two a.1) && (two.device a.1.toNat).configured &&
      !(two.device a.1.toNat).running && (two.device a.1.toNat).minSpeed.isSome &&
      (two.device a.1.toNat).maxSpeed.isSome) = true ∧
    (axes.map Prod.fst).Nodup ∧ (4000#32 ≠ (two.device 0).position) ∧
    accelSteps two axes = 40 ∧ (two.cfg.minSlice < 4000 / 40) ∧ 2000 / 40 ≤ 50 ∧
    (low.cfg.ok = true ∧ accelSteps low far = 42949672 ∧
      2 ^ 32 ≤ (2 ^ 32 - 1) + 2 * (42949672 / 2) * ((2 ^ 32 - 1) / 42949672)) :=
  ⟨two_inv, by decide, by decide, by decide, by decide, by decide, by decide, by decide, by decide, by decide, by decide,
    by decide⟩

end Sys2Proof.Tests
end

/-! # The shape of the state

The configuration and the lengths of the five arrays, as one value. Every operation of the machine but the platform's
reset leaves this value as it is; each lemma below says so of one operation, as an equation that `simp` composes. -/

namespace Sys2Proof.Machine

open Sys2Proof.Safety

/-- The configuration and the length of every array whose size 10_state.md fixes (R21, R40, R47, R48, R49). -/
structure Shape where
  cfg : Cfg
  dev : Nat
  chanMap : Nat
  xfer : Nat
  pgq : Nat
  pulseLog : Nat

/-- The shape of a state. -/
def State.shape (s : State) : Shape :=
  ⟨s.cfg, s.dev.length, s.chanMap.length, s.xfer.length, s.pgq.length, s.pulseLog.length⟩

/-- The shape a configuration prescribes. -/
def Cfg.shape (c : Cfg) : Shape := ⟨c, c.nDev, c.nCC, c.nCC, c.nPG, c.nPG⟩

theorem State.sized_iff_shape (s : State) : Sized s ↔ s.shape = Cfg.shape s.cfg := by
  simp [Sized, State.shape, Cfg.shape]

theorem State.cfg_eq_of_shape {s t : State} (h : t.shape = s.shape) : t.cfg = s.cfg := congrArg Shape.cfg h

theorem State.dev_length_eq_of_shape {s t : State} (h : t.shape = s.shape) : t.dev.length = s.dev.length :=
  congrArg Shape.dev h

theorem State.resetOf_shape (c : Cfg) : (State.resetOf c).shape = Cfg.shape c := by
  simp [State.shape, Cfg.shape, State.resetOf]

/-- A fold of steps that each keep the shape keeps the shape. -/
theorem foldl_shape {α : Type} {f : State → α → State} (hf : ∀ s a, (f s a).shape = s.shape) (l : List α) (s : State) :
    (l.foldl f s).shape = s.shape := by
  induction l generalizing s with
  | nil => rfl
  | cons a l ih => rw [List.foldl_cons, ih, hf]

/-! ## The named updates -/

@[simp] theorem State.setDevice_shape (s : State) (i : Nat) (d : Device) : (s.setDevice i d).shape = s.shape := by
  simp [State.shape]
@[simp] theorem State.modDevice_shape (s : State) (i : Nat) (f : Device → Device) :
    (s.modDevice i f).shape = s.shape := s.setDevice_shape i _
@[simp] theorem State.completeDevice_shape (s : State) (i : Nat) : (s.completeDevice i).shape = s.shape :=
  s.modDevice_shape i _
@[simp] theorem State.clearStack_shape (s : State) (i : Nat) : (s.clearStack i).shape = s.shape :=
  s.modDevice_shape i _
@[simp] theorem State.setXfer_shape (s : State) (c : Nat) (x : Xfer) : (s.setXfer c x).shape = s.shape := by
  simp [State.shape]
@[simp] theorem State.setQueue_shape (s : State) (p : Nat) (q : List Word) : (s.setQueue p q).shape = s.shape := by
  simp [State.shape]
@[simp] theorem State.writePGQ_shape (s : State) (i : Nat) (w : Word) : (s.writePGQ i w).shape = s.shape :=
  s.setQueue_shape _ _
@[simp] theorem State.raiseFault_shape (s : State) (f : Word) : (s.raiseFault f).shape = s.shape := rfl
@[simp] theorem State.setIrqFlag_shape (s : State) (c : Nat) : (s.setIrqFlag c).shape = s.shape := rfl
@[simp] theorem State.latch_shape (s : State) (r : Result) : (s.latch r).shape = s.shape := rfl
@[simp] theorem State.endMacro_shape (s : State) (r : Result) : (s.endMacro r).shape = s.shape := rfl
@[simp] theorem State.beginMacro_shape (s : State) (q : Seq) : (s.beginMacro q).shape = s.shape := rfl
@[simp] theorem State.setSeq_shape (s : State) (q : Seq) : (s.setSeq q).shape = s.shape := rfl
@[simp] theorem State.tick_shape (s : State) : s.tick.shape = s.shape := rfl
@[simp] theorem State.reply_shape (s : State) (r : HostReply) : (s.reply r).shape = s.shape := rfl

/-! ## The shared operations -/

@[simp] theorem State.setDelay_shape (s : State) (i v : Nat) : (s.setDelay i v).shape = s.shape := by
  obtain ⟨w, k, -, -, h⟩ := setDelay_cases s i v
  simp [h, State.shape]

@[simp] theorem State.push_shape (s : State) (i : Nat) (v : Word) : (s.push i v).shape = s.shape := by
  obtain ⟨-, h⟩ | ⟨-, h⟩ := push_cases s i v <;> simp [h]

@[simp] theorem State.pop_shape (s : State) (i : Nat) : (s.pop i).2.shape = s.shape := s.modDevice_shape i _

theorem State.startBurst_shape {s t : State} {i n : Nat} {cb : Callback} (h : s.startBurst i n cb = .ok t) :
    t.shape = s.shape := by
  obtain ⟨-, -, -, rfl⟩ := (startBurst_ok_iff s t i n cb).1 h
  simp

@[simp] theorem State.seqDispatch_shape (s : State) (i n : Nat) (cb : Callback) :
    (s.seqDispatch i n cb).shape = s.shape := by
  obtain h | h := seqDispatch_cases s i n cb
  · exact State.startBurst_shape h
  · simp [h]

@[simp] theorem State.claim_shape (s : State) (i p c : Nat) : (s.claim i p c).shape = s.shape := by
  simp [State.shape, State.claim]

/-- What holds of the state and of all the body can make of it holds after the handle check (60_exceptions.md R268). -/
theorem withHandle_preserves {p : State → Prop} {h : Byte} {s : State} {body : Nat → State × Result} (hs : p s)
    (hb : ∀ i, p (body i).1) : p (withHandle h s body).1 := by
  obtain ⟨-, he⟩ | ⟨-, he⟩ := withHandle_cases h s body
  · exact he ▸ hb _
  · exact he ▸ hs

theorem withHandle_shape {h : Byte} {s : State} {body : Nat → State × Result}
    (hb : ∀ i, (body i).1.shape = s.shape) : (withHandle h s body).1.shape = s.shape :=
  withHandle_preserves (p := fun u => u.shape = s.shape) rfl hb

/-! ## The simple commands -/

@[simp] theorem allocCmd_shape (s : State) : (allocCmd s).1.shape = s.shape := by
  unfold allocCmd
  split <;> simp

@[simp] theorem config2Cmd_shape (dev dirPin stepPin : Byte) (clkdiv : Word) (s : State) :
    (config2Cmd dev dirPin stepPin clkdiv s).1.shape = s.shape :=
  withHandle_shape fun i => by dsimp only; split_ifs <;> simp

@[simp] theorem config4Cmd_shape (dev basePin : Byte) (clkdiv : Word) (s : State) :
    (config4Cmd dev basePin clkdiv s).1.shape = s.shape :=
  withHandle_shape fun i => by split_ifs <;> simp

@[simp] theorem setDirCmd_shape (dev : Byte) (dir : Bool) (s : State) : (setDirCmd dev dir s).1.shape = s.shape :=
  withHandle_shape fun i => s.modDevice_shape i _

@[simp] theorem setEnCmd_shape (dev : Byte) (en : Bool) (s : State) : (setEnCmd dev en s).1.shape = s.shape :=
  withHandle_shape fun i => s.modDevice_shape i _

@[simp] theorem setDelayCmd_shape (dev : Byte) (delay : Word) (s : State) :
    (setDelayCmd dev delay s).1.shape = s.shape :=
  withHandle_shape fun i => by split_ifs <;> simp

@[simp] theorem setAccelCmd_shape (dev : Byte) (rate : Word) (s : State) :
    (setAccelCmd dev rate s).1.shape = s.shape :=
  withHandle_shape fun i => s.modDevice_shape i _

@[simp] theorem setPosCmd_shape (dev : Byte) (pos : Word) (s : State) : (setPosCmd dev pos s).1.shape = s.shape :=
  withHandle_shape fun i => s.modDevice_shape i _

@[simp] theorem setMinspdCmd_shape (dev : Byte) (rate : Word) (s : State) :
    (setMinspdCmd dev rate s).1.shape = s.shape :=
  withHandle_shape fun i => by split_ifs <;> simp

@[simp] theorem setMaxspdCmd_shape (dev : Byte) (rate : Word) (s : State) :
    (setMaxspdCmd dev rate s).1.shape = s.shape :=
  withHandle_shape fun i => by split_ifs <;> simp

/-- SPD2DLY answers and writes nothing (41_encoder.md R153). -/
@[simp] theorem spd2dlyCmd_state (rate : Word) (s : State) : (spd2dlyCmd rate s).1 = s := by
  unfold spd2dlyCmd
  split <;> rfl

/-- DLY2SPD answers and writes nothing (R154). -/
@[simp] theorem dly2spdCmd_state (delay : Word) (s : State) : (dly2spdCmd delay s).1 = s := by
  unfold dly2spdCmd
  split <;> rfl

/-- GET answers and writes nothing (R155). -/
@[simp] theorem getCmd_state (dev field : Byte) (s : State) : (getCmd dev field s).1 = s := by
  unfold getCmd
  split
  · split
    · split <;> rfl
    · rfl
  · exact withHandle_preserves (p := fun u => u = s) rfl fun i => by split <;> rfl

@[simp] theorem stkPushCmd_shape (dev : Byte) (value : Word) (s : State) :
    (stkPushCmd dev value s).1.shape = s.shape :=
  withHandle_shape fun i => by split_ifs <;> simp

@[simp] theorem stkPopCmd_shape (dev : Byte) (s : State) : (stkPopCmd dev s).1.shape = s.shape :=
  withHandle_shape fun i => by
    have hp : (s.pop i).2.shape = s.shape := s.pop_shape i
    split <;> next h => rwa [h] at hp

@[simp] theorem moveAsyncCmd_shape (dev : Byte) (steps : Word) (cb : Callback) (s : State) :
    (moveAsyncCmd dev steps cb s).1.shape = s.shape :=
  withHandle_shape fun i => by
    split
    next h => exact State.startBurst_shape h
    next => rfl

/-- No command of a handler changes the shape; a command that is not simple changes nothing there (30_encoding.md R95). -/
@[simp] theorem handlerCommand_shape (i : Instr) (s : State) : (handlerCommand i s).1.shape = s.shape := by
  cases i <;> simp [handlerCommand]

/-- A simple command means in thread context what it means in a handler, with its result latched
(60_exceptions.md R266, R285). -/
theorem exec_of_simple {i : Instr} (hi : i.isMacro = false) (s : State) :
    exec i s = simpleCommand (handlerCommand i s) := by
  cases i
  case moveBlock | waitIdle | moveTo | moveMulti => simp [Instr.isMacro] at hi
  all_goals rfl

/-! ## The prologues of the commands that start the sequencer -/

/-- A command that starts the sequencer keeps the shape where the writes of its prologue do. -/
theorem macroCommand_shape {s t : State} {out : Prologue} (hout : ∀ u q, out = .starts u q → u.shape = s.shape)
    (h : macroCommand s out = .next t) : t.shape = s.shape := by
  cases out with
  | ends r =>
    obtain rfl : s.latch r = t := by simpa [macroCommand] using h
    exact s.latch_shape r
  | starts u q =>
    obtain rfl : u.beginMacro q = t := by simpa [macroCommand] using h
    exact hout u q rfl

theorem moveBlockPrologue_shape {dev : Byte} {dir : Bool} {steps startDelay delayStep : Word} {s u : State} {q : Seq}
    (h : moveBlockPrologue dev dir steps startDelay delayStep s = .starts u q) : u.shape = s.shape := by
  unfold moveBlockPrologue at h
  dsimp only at h
  split_ifs at h
  cases h
  exact s.modDevice_shape _ _

theorem waitIdlePrologue_shape {dev : Byte} {s u : State} {q : Seq}
    (h : waitIdlePrologue dev s = .starts u q) : u.shape = s.shape := by
  unfold waitIdlePrologue at h
  split_ifs at h
  cases h
  rfl

@[simp] theorem State.beginMoveTo_shape (s : State) (i : Nat) (target minSpeed : Word) :
    (s.beginMoveTo i target minSpeed).shape = s.shape := by
  simp [State.beginMoveTo]

theorem moveToPrologue_shape {dev : Byte} {target : Word} {s u : State} {q : Seq}
    (h : moveToPrologue dev target s = .starts u q) : u.shape = s.shape := by
  unfold moveToPrologue at h
  dsimp only at h
  split at h
  · cases h
  split at h
  · cases h
  split at h
  · split_ifs at h
    cases h
    exact s.beginMoveTo_shape _ _ _
  · cases h

@[simp] theorem State.beginAxis_shape (most : Nat) (s : State) (a : AxisTarget) :
    (State.beginAxis most s a).shape = s.shape := by
  unfold State.beginAxis
  dsimp only
  split
  · split <;> simp
  · simp

@[simp] theorem State.beginMulti_shape (s : State) (axes : List AxisTarget) : (s.beginMulti axes).shape = s.shape :=
  foldl_shape (State.beginAxis_shape _) axes s

theorem moveMultiPrologue_shape {sequential : Bool} {axes : List (Byte × Word)} {s u : State} {q : Seq}
    (h : moveMultiPrologue sequential axes s = .starts u q) : u.shape = s.shape := by
  unfold moveMultiPrologue at h
  dsimp only at h
  split_ifs at h
  cases h
  exact s.beginMulti_shape _

/-- No command changes the shape at its acceptance in thread context. -/
theorem exec_shape {i : Instr} {s t : State} (h : exec i s = .next t) : t.shape = s.shape := by
  cases hi : i.isMacro with
  | false =>
    rw [exec_of_simple hi] at h
    obtain rfl : (handlerCommand i s).1.latch (handlerCommand i s).2 = t := by simpa [simpleCommand] using h
    simp
  | true =>
    cases i
    case moveBlock => exact macroCommand_shape (fun _ _ => moveBlockPrologue_shape) h
    case waitIdle => exact macroCommand_shape (fun _ _ => waitIdlePrologue_shape) h
    case moveTo => exact macroCommand_shape (fun _ _ => moveToPrologue_shape) h
    case moveMulti => exact macroCommand_shape (fun _ _ => moveMultiPrologue_shape) h
    all_goals simp [Instr.isMacro] at hi

/-! ## The sequencer -/

theorem blockStep_shape {i k : Nat} {v : Int} {dir : Bool} {delayStep : Int} {s t : State}
    (h : blockStep i k v dir delayStep s = some t) : t.shape = s.shape := by
  cases k with
  | zero =>
    cases h
    rfl
  | succ k =>
    unfold blockStep at h
    dsimp only at h
    split_ifs at h <;> cases h <;> simp

theorem blockDrainStep_shape {i : Nat} {res : Result} {s t : State} (h : blockDrainStep i res s = some t) :
    t.shape = s.shape := by
  unfold blockDrainStep at h
  split_ifs at h
  cases h
  simp

theorem waitIdleStep_shape {i : Nat} {s t : State} (h : waitIdleStep i s = some t) : t.shape = s.shape := by
  unfold waitIdleStep at h
  split_ifs at h
  cases h
  rfl

@[simp] theorem toStep_shape (i : Nat) (phase : Phase) (k rem half : Nat) (s : State) :
    (toStep i phase k rem half s).shape = s.shape := by
  cases phase with
  | accel | decel => cases k <;> simp [toStep]
  | remainder =>
    simp only [toStep]
    split <;> simp

theorem toWaitStep_shape {i : Nat} {phase : Phase} {k rem half : Nat} {s t : State}
    (h : toWaitStep i phase k rem half s = some t) : t.shape = s.shape := by
  unfold toWaitStep at h
  split_ifs at h
  cases h
  rfl

@[simp] theorem rampAxis_shape (ctx : MultiCtx) (phase : Phase) (k j : Nat) (set : List Nat) (a : Axis) (s : State) :
    (rampAxis ctx phase k j set a s).shape = s.shape := by
  unfold rampAxis
  split <;> simp

@[simp] theorem remainderAxis_shape (ctx : MultiCtx) (k j : Nat) (set : List Nat) (a : Axis) (s : State) :
    (remainderAxis ctx k j set a s).shape = s.shape := by
  unfold remainderAxis
  split_ifs <;> simp

@[simp] theorem State.turnAxes_shape (s : State) (axes : List Axis) : (s.turnAxes axes).shape = s.shape :=
  foldl_shape (fun _ _ => State.modDevice_shape ..) axes s

@[simp] theorem multiStep_shape (ctx : MultiCtx) (phase : Phase) (k j : Nat) (set : List Nat) (s : State) :
    (multiStep ctx phase k j set s).shape = s.shape := by
  cases phase with
  | remainder => cases ha : ctx.axes[j]? <;> simp [multiStep, ha]
  | accel | decel =>
    cases ha : ctx.axes[j]? with
    | none => simp [multiStep, ha]
    | some a => by_cases hk : k = 0 <;> simp [multiStep, ha, hk]

theorem multiWaitStep_shape {ctx : MultiCtx} {phase : Phase} {k j : Nat} {set : List Nat} {s t : State}
    (h : multiWaitStep ctx phase k j set s = some t) : t.shape = s.shape := by
  unfold multiWaitStep at h
  split_ifs at h <;> cases h <;> rfl

theorem sequencerStep_shape {s t : State} (h : sequencerStep s = some t) : t.shape = s.shape := by
  unfold sequencerStep at h
  split at h
  · cases h
  · exact blockStep_shape h
  · exact blockDrainStep_shape h
  · exact waitIdleStep_shape h
  · cases h
    exact toStep_shape ..
  · exact toWaitStep_shape h
  · cases h
    exact multiStep_shape ..
  · exact multiWaitStep_shape h

/-! ## The events -/

theorem beatStep_shape {c : Nat} {s t : State} (h : beatStep c s = some t) : t.shape = s.shape := by
  obtain ⟨-, -, rfl⟩ := (beatStep_some_iff c s t).1 h
  split <;> simp

theorem pulseStep_shape {p : Nat} {s t : State} (h : pulseStep p s = some t) : t.shape = s.shape := by
  obtain ⟨w, rest, -, rfl⟩ := (pulseStep_some_iff p s t).1 h
  simp [State.shape]

@[simp] theorem accelDown_shape (i : Nat) (s : State) : (accelDown i s).shape = s.shape := by
  have hp : (s.pop i).2.shape = s.shape := s.pop_shape i
  unfold accelDown
  split
  · split
    next r t h =>
      rw [h] at hp
      rw [State.setDelay_shape, hp]
    next => simp
  · simp

@[simp] theorem State.countCoast_shape (s : State) (i : Nat) : (s.countCoast i).shape = s.shape := by
  unfold State.countCoast
  split <;> simp

@[simp] theorem accelUp_shape (i : Nat) (s : State) : (accelUp i s).shape = s.shape := by
  unfold accelUp
  split
  · simp
  · dsimp only
    split <;> simp

@[simp] theorem accelCallback_shape (i : Nat) (s : State) : (accelCallback i s).shape = s.shape := by
  unfold accelCallback
  dsimp only
  split
  · rfl
  · split <;> simp

theorem handlerStep_shape (s : State) (i : Instr) : (handlerStep s i).shape = s.shape := handlerCommand_shape i s

/-- The oracle's answer, however long, keeps the shape (60_exceptions.md R279). -/
@[simp] theorem runHandler_shape (tag : Byte) (i : Nat) (s : State) : (runHandler tag i s).shape = s.shape :=
  foldl_shape handlerStep_shape _ _

@[simp] theorem runCallback_shape (i : Nat) (s : State) : (runCallback i s).shape = s.shape := by
  unfold runCallback
  split <;> simp

theorem completeChannel_shape (s : State) (c : Nat) : (completeChannel s c).shape = s.shape := by
  unfold completeChannel
  split <;> simp

theorem dispatchStep_shape {s t : State} (h : dispatchStep s = some t) : t.shape = s.shape := by
  obtain ⟨-, rfl⟩ := (dispatchStep_some_iff s t).1 h
  exact foldl_shape completeChannel_shape _ _

/-! ## The host -/

theorem runDecoded_shape {d : Decoded} {s t : State} (h : runDecoded d s = .next t) : t.shape = s.shape := by
  cases d with
  | command i => exact exec_shape h
  | illegalCommand | badArgument =>
    cases h
    rfl

theorem acceptWord_shape {w : Word} {s t : State} (h : acceptWord w s = .next t) : t.shape = s.shape := by
  unfold acceptWord at h
  split at h
  · cases h
    rfl
  · exact (runDecoded_shape h :)

theorem windowWrite_shape {r : WindowReg} {w : Word} {s t : State} (h : windowWrite r w s = .next t) :
    t.shape = s.shape := by
  cases r
  case cmd =>
    unfold windowWrite at h
    dsimp only at h
    split_ifs at h
    · cases h
      rfl
    · exact (acceptWord_shape h :)
  all_goals
    cases h
    rfl

theorem hostAccess_shape {op : HostOp} {s t : State} (h : hostAccess op s = .next t) : t.shape = s.shape := by
  cases op with
  | read addr size =>
    simp only [hostAccess] at h
    split at h <;> cases h <;> rfl
  | write addr size data =>
    simp only [hostAccess] at h
    split at h
    · exact windowWrite_shape h
    · cases h
      rfl

theorem hostStep_shape {s t : State} (h : hostStep s = some (.next t)) : t.shape = s.shape := by
  unfold hostStep at h
  split at h
  · cases h
  · exact (hostAccess_shape (Option.some.inj h) :)

/-! ## Every step -/

/-- The platform's reset gives every array the size the configuration prescribes (10_state.md R52). -/
theorem platformReset_shape (s : State) : (platformReset s).shape = Cfg.shape s.cfg := State.resetOf_shape s.cfg

/-- No agent but the platform's reset changes the shape. -/
theorem agentStep_shape {a : Agent} {s t : State} (ha : a ≠ .platformReset) (h : agentStep a s = some (.next t)) :
    t.shape = s.shape := by
  cases a with
  | host => exact hostStep_shape h
  | sequencer => exact sequencerStep_shape (by simpa [agentStep] using h)
  | burst c => exact beatStep_shape (by simpa [agentStep] using h)
  | pulseGen p => exact pulseStep_shape (by simpa [agentStep] using h)
  | dispatcher => exact dispatchStep_shape (by simpa [agentStep] using h)
  | platformReset => exact absurd rfl ha

/-- A step that is no reset keeps the shape. -/
theorem step_shape {s t : State} (hr : s.schedule.head? ≠ some .platformReset) (h : step s = .next t) :
    t.shape = s.shape := by
  obtain ⟨-, hs⟩ | ⟨a, rest, hsch, ⟨-, hs⟩ | ⟨out, ha, hs⟩⟩ := step_cases (cfg_ok_of_step h)
  · cases h.symm.trans hs
    rfl
  · cases h.symm.trans hs
    rfl
  · cases hs.symm.trans h
    exact (agentStep_shape (by simpa [hsch] using hr) ha :)

/-- A step that is a reset gives the shape the configuration prescribes. -/
theorem step_shape_of_reset {s t : State} (hr : s.schedule.head? = some .platformReset) (h : step s = .next t) :
    t.shape = Cfg.shape s.cfg := by
  obtain ⟨rest, hsch⟩ := List.head?_eq_some_iff.1 hr
  obtain rfl : platformReset { s with schedule := rest } = t := by
    simpa [step, advance, cfg_ok_of_step h, hsch, agentStep] using h
  exact platformReset_shape _

/-- Settles O14: a step other than reset keeps the configuration and every array's length; a reset keeps the
configuration and gives each array the length it prescribes. -/
theorem stepKeepsConfigurationAndSizes : Obligations.StepKeepsConfigurationAndSizes := by
  intro s t h
  by_cases hr : s.schedule.head? = some .platformReset
  · have hshape : t.shape = Cfg.shape s.cfg := step_shape_of_reset hr h
    have hcfg : t.cfg = s.cfg := congrArg Shape.cfg hshape
    refine ⟨hcfg, ?_, fun _ => ?_⟩
    · rw [if_pos hr]
      exact congrArg Shape.dev hshape
    · rw [State.sized_iff_shape, hcfg, hshape]
  · have hshape : t.shape = s.shape := step_shape hr h
    have hcfg : t.cfg = s.cfg := State.cfg_eq_of_shape hshape
    refine ⟨hcfg, ?_, fun hsized => ?_⟩
    · rw [if_neg hr]
      exact State.dev_length_eq_of_shape hshape
    · rw [State.sized_iff_shape, hcfg, hshape, (State.sized_iff_shape s).1 hsized]

end Sys2Proof.Machine

/-! # What the machine can write

An `Edit` is one write of a command or a callback: to one slot, to the fault word, an armed burst, or ALLOC's claim. Every
command in thread or handler context, every ramp callback and every internal dispatch is a chain of edits (`Edits`), said
once for each below; an invariant of the machine is then proved of one edit. -/

namespace Sys2Proof.Machine

open Sys2Proof.Safety

/-- `s` without the fields no invariant speaks of: the words and results of the command port and what is outside the
machine (10_state.md R46, R51). -/
def State.bare (s : State) : State :=
  { s with
    result := ⟨0#8, 0#32, 0#32⟩, cmdBuf := [], schedule := [], hostOps := [], hostLog := []
    handlers := [], handlerLog := [], freeIx := 0 }

/-- The claim on a slot: whether it is in use, and its two channels (10_state.md R22 to R24). -/
def Device.held (d : Device) : Bool × Nat × Nat := (d.inUse, d.pgChan, d.ccChan)

theorem Device.held_inj {d e : Device} :
    d.held = e.held ↔ d.inUse = e.inUse ∧ d.pgChan = e.pgChan ∧ d.ccChan = e.ccChan := by
  simp [Device.held]

/-- How much an edit may do: the sequencer claims no slot, and only SET_POS and the moves write a position. -/
inductive Scope where
  | sequencer
  | command
  | move

/-- `e` is legal where `d` was, on a legal configuration (10_state.md R39 (a), (b)). -/
abbrev KeepsLegal (c : Cfg) (d e : Device) : Prop :=
  c.ok = true → d.inUse = true → DeviceLegal c d → DeviceLegal c e

/-- The state with a burst of slot `i` armed (43_step_engine.md R186). -/
def State.armed (s : State) (i n : Nat) (cb : Callback) : State :=
  (s.modDevice i fun d => { d with callback := cb, running := true }).setXfer (s.device i).ccChan ⟨wordOf n, true, i⟩

/-- One write, its scope given. `arm` takes the claim on its slot from the sequencer where an internal dispatch arms. -/
inductive Edit (k : Scope) : State → State → Prop
  | outside {s t : State} (h : t.bare = s.bare) : Edit k s t
  | write {s : State} {i : Nat} {d : Device} (hheld : d.held = (s.device i).held)
      (hrun : d.running = (s.device i).running) (hpos : k ≠ .move → d.position = (s.device i).position)
      (hlegal : KeepsLegal s.cfg (s.device i) d) : Edit k s (s.setDevice i d)
  | raise {s : State} {f : Word} (hf : f &&& ~~~0x3F#32 = 0#32) : Edit k s (s.raiseFault f)
  | arm {s : State} {i n : Nat} {cb : Callback} (hu : SeqLegal s → (s.device i).inUse = true)
      (hr : (s.device i).running = false) : Edit k s (s.armed i n cb)
  | claim {s : State} {i p c : Nat} (hk : k ≠ .sequencer) (hi : i < s.cfg.nDev) (hu : (s.device i).inUse = false)
      (hp : p ∈ s.pgFree) (hc : c ∈ s.ccFree) : Edit k s (s.claim i p c)

/-- A chain of edits. -/
abbrev Edits (k : Scope) : State → State → Prop := Relation.ReflTransGen (Edit k)

theorem Edit.edits {k : Scope} {s t : State} (h : Edit k s t) : Edits k s t := .single h

/-- The widest scope allows every edit. -/
theorem Edit.widen {k : Scope} {s t : State} (h : Edit k s t) : Edit .move s t := by
  cases h with
  | outside h => exact .outside h
  | write hheld hrun hpos hlegal => exact .write hheld hrun (fun hk => absurd rfl hk) hlegal
  | raise hf => exact .raise hf
  | arm hu hr => exact .arm hu hr
  | claim hk hi hu hp hc => exact .claim (by simp) hi hu hp hc

theorem Edits.widen {k : Scope} {s t : State} (h : Edits k s t) : Edits .move s t :=
  h.lift id fun _ _ => Edit.widen

/-- A write that is a function of the slot's record. -/
theorem Edit.modDevice {k : Scope} {s : State} {i : Nat} {f : Device → Device}
    (hlegal : KeepsLegal s.cfg (s.device i) (f (s.device i)))
    (hpos : k ≠ .move → (f (s.device i)).position = (s.device i).position := by exact fun _ => rfl)
    (hheld : (f (s.device i)).held = (s.device i).held := by rfl)
    (hrun : (f (s.device i)).running = (s.device i).running := by rfl) : Edit k s (s.modDevice i f) :=
  .write hheld hrun hpos hlegal

/-- A chain of that one write, for a goal about chains. -/
theorem modDevice_edits {k : Scope} {s : State} {i : Nat} {f : Device → Device}
    (hlegal : KeepsLegal s.cfg (s.device i) (f (s.device i)))
    (hpos : k ≠ .move → (f (s.device i)).position = (s.device i).position := by exact fun _ => rfl)
    (hheld : (f (s.device i)).held = (s.device i).held := by rfl)
    (hrun : (f (s.device i)).running = (s.device i).running := by rfl) : Edits k s (s.modDevice i f) :=
  (Edit.modDevice hlegal hpos hheld hrun).edits

/-- A write of fields that no legal value is required of. -/
theorem modDevice_free_edits {k : Scope} {s : State} {i : Nat} {f : Device → Device}
    (hlegal : DeviceLegal s.cfg (f (s.device i)) = DeviceLegal s.cfg (s.device i) := by rfl)
    (hpos : k ≠ .move → (f (s.device i)).position = (s.device i).position := by exact fun _ => rfl)
    (hheld : (f (s.device i)).held = (s.device i).held := by rfl)
    (hrun : (f (s.device i)).running = (s.device i).running := by rfl) : Edits k s (s.modDevice i f) :=
  modDevice_edits (fun _ _ hd => hlegal ▸ hd) hpos hheld hrun

/-! ## The shared operations -/

theorem Cfg.minDelay_lt {c : Cfg} (h : c.ok = true) : c.minDelay < 2 ^ 30 := by
  simp only [Cfg.ok, Bool.and_eq_true, decide_eq_true_eq] at h
  obtain ⟨-, -, -, -, -, -, -, -, -, -, hmin, -⟩ := h
  exact hmin

theorem Cfg.nCC_le {c : Cfg} (h : c.ok = true) : c.nCC ≤ 32 := by
  simp only [Cfg.ok, Bool.and_eq_true, decide_eq_true_eq] at h
  obtain ⟨-, -, -, hcc, -⟩ := h
  exact hcc

theorem setDelay_edits {k : Scope} (s : State) (i v : Nat) : Edits k s (s.setDelay i v) := by
  obtain ⟨w, n, hw, -, h⟩ := setDelay_cases s i v
  rw [h]
  have hwrite : Edit k s (s.modDevice i fun d => { d with delay := s.cfg.clampDelay w }.recompute) :=
    .modDevice fun hc _ ⟨_, _, hrest⟩ => ⟨clampDelay_range (Cfg.minDelay_lt hc) hw, rfl, hrest⟩
  exact hwrite.edits.tail (.outside rfl)

/-- A value pushed on a ramp stack with room leaves it legal (10_state.md R38). -/
theorem stackLegal_push {c : Cfg} {stack : List Word} {v : Word} (hs : StackLegal c stack) (hv : v.toNat < 2 ^ 30)
    (hfull : c.stackFull stack = false) : StackLegal c (stack ++ [v]) := by
  obtain ⟨hall, hlen⟩ := hs
  refine ⟨by simp only [List.all_append, hall]; simpa using hv, fun n hn => ?_⟩
  rw [Option.mem_def] at hn
  simpa [Cfg.stackFull, hn] using hfull

/-- The values left on a ramp stack by a pop are legal. -/
theorem stackLegal_dropLast {c : Cfg} {stack : List Word} (hs : StackLegal c stack) : StackLegal c stack.dropLast := by
  obtain ⟨hall, hlen⟩ := hs
  rw [List.all_eq_true] at hall
  refine ⟨List.all_eq_true.2 fun w hw => hall w (List.mem_of_mem_dropLast hw), fun n hn => ?_⟩
  have := hlen n hn
  rw [List.length_dropLast]
  omega

theorem stackLegal_nil (c : Cfg) : StackLegal c [] := ⟨rfl, fun _ _ => Nat.zero_le _⟩

/-- A push of a delay, or of a value a legal slot holds as its delay (44_accel_controller.md R216). -/
theorem push_edit {k : Scope} {s : State} {i : Nat} {v : Word}
    (hv : (s.device i).inUse = true → DeviceLegal s.cfg (s.device i) → v.toNat < 2 ^ 30) : Edit k s (s.push i v) := by
  obtain ⟨-, h⟩ | ⟨hfull, h⟩ := push_cases s i v
  · exact h ▸ .raise (by decide)
  · rw [h]
    refine .modDevice fun hc hu hd => ?_
    have hw := hv hu hd
    obtain ⟨hdelay, hcmd, hmin, hmax, hstack, hden⟩ := hd
    exact ⟨hdelay, hcmd, hmin, hmax, stackLegal_push hstack hw hfull, hden⟩

theorem pop_edit {k : Scope} (s : State) (i : Nat) : Edit k s (s.pop i).2 := by
  show Edit k s (s.modDevice i fun d => { d with stack := d.stack.dropLast })
  exact .modDevice fun _ _ ⟨hdelay, hcmd, hmin, hmax, hstack, hden⟩ =>
    ⟨hdelay, hcmd, hmin, hmax, stackLegal_dropLast hstack, hden⟩

theorem clearStack_edit {k : Scope} (s : State) (i : Nat) : Edit k s (s.clearStack i) :=
  .modDevice fun _ _ ⟨hdelay, hcmd, hmin, hmax, _, hden⟩ =>
    ⟨hdelay, hcmd, hmin, hmax, stackLegal_nil _, hden⟩

theorem startBurst_edit {k : Scope} {s t : State} {i n : Nat} {cb : Callback}
    (hu : SeqLegal s → (s.device i).inUse = true) (h : s.startBurst i n cb = .ok t) : Edit k s t := by
  obtain ⟨-, hr, -, rfl⟩ := (startBurst_ok_iff s t i n cb).1 h
  exact .arm hu hr

theorem seqDispatch_edit {k : Scope} {s : State} {i : Nat} (hu : SeqLegal s → (s.device i).inUse = true) (n : Nat)
    (cb : Callback) : Edit k s (s.seqDispatch i n cb) := by
  obtain h | h := seqDispatch_cases s i n cb
  · exact startBurst_edit hu h
  · exact h ▸ .raise (by decide)

/-! ## The simple commands -/

/-- The pair ALLOC picks is free (40_registry.md R122). -/
theorem mem_of_pickPg {pgpb p : Nat} {free : List Nat} (h : pickPg pgpb free = some p) : p ∈ free := by
  unfold pickPg at h
  split at h
  next q hq =>
    cases h
    exact List.mem_of_mem_filter (List.min?_mem hq)
  next => exact List.mem_of_mem_filter (List.min?_mem h)

/-- The slot ALLOC finds is a slot, and not in use (R121). -/
theorem firstUnused_spec {s : State} {i : Nat} (h : s.firstUnused = some i) :
    i < s.cfg.nDev ∧ (s.device i).inUse = false :=
  ⟨List.mem_range.1 (List.mem_of_find?_eq_some h), by simpa using List.find?_some h⟩

theorem allocCmd_edits (s : State) : Edits .command s (allocCmd s).1 := by
  unfold allocCmd
  split
  next i p c hi hp hc =>
    obtain ⟨hlt, hu⟩ := firstUnused_spec hi
    exact (Edit.claim (by simp) hlt hu (mem_of_pickPg hp) (List.min?_mem hc)).edits
  next => exact .refl

/-- A command on a device is what its body does to a claimed slot, or nothing (60_exceptions.md R268). -/
theorem withHandle_edits {k : Scope} {h : Byte} {s : State} {body : Nat → State × Result}
    (hb : ∀ i, (s.device i).inUse = true → Edits k s (body i).1) : Edits k s (withHandle h s body).1 := by
  obtain ⟨hv, he⟩ | ⟨-, he⟩ := withHandle_cases h s body
  · obtain ⟨-, -, hu⟩ := (validHandle_iff s h).1 hv
    exact he ▸ hb _ hu
  · exact he ▸ .refl

theorem config2Cmd_edits (dev dirPin stepPin : Byte) (clkdiv : Word) (s : State) :
    Edits .command s (config2Cmd dev dirPin stepPin clkdiv s).1 :=
  withHandle_edits fun i _ => by
    dsimp only
    split_ifs
    · exact .refl
    · exact .refl
    · dsimp only
      exact modDevice_free_edits

theorem config4Cmd_edits (dev basePin : Byte) (clkdiv : Word) (s : State) :
    Edits .command s (config4Cmd dev basePin clkdiv s).1 :=
  withHandle_edits fun i _ => by
    split_ifs
    · exact .refl
    · dsimp only
      exact modDevice_free_edits

theorem setDirCmd_edits (dev : Byte) (dir : Bool) (s : State) : Edits .command s (setDirCmd dev dir s).1 :=
  withHandle_edits fun _ _ => by
    dsimp only
    exact modDevice_edits fun _ _ ⟨hdelay, _, hrest⟩ => ⟨hdelay, rfl, hrest⟩

theorem setEnCmd_edits (dev : Byte) (en : Bool) (s : State) : Edits .command s (setEnCmd dev en s).1 :=
  withHandle_edits fun _ _ => by
    dsimp only
    exact modDevice_edits fun _ _ ⟨hdelay, _, hrest⟩ => ⟨hdelay, rfl, hrest⟩

theorem setDelayCmd_edits (dev : Byte) (delay : Word) (s : State) : Edits .command s (setDelayCmd dev delay s).1 :=
  withHandle_edits fun i _ => by
    split_ifs
    · exact .refl
    · exact setDelay_edits s i _

theorem setAccelCmd_edits (dev : Byte) (rate : Word) (s : State) : Edits .command s (setAccelCmd dev rate s).1 :=
  withHandle_edits fun _ _ => by
    dsimp only
    exact modDevice_free_edits

theorem setPosCmd_edits (dev : Byte) (pos : Word) (s : State) : Edits .move s (setPosCmd dev pos s).1 :=
  withHandle_edits fun _ _ => by
    dsimp only
    exact modDevice_free_edits (hpos := fun hk => absurd rfl hk)

/-- A rate the speed setters accept is a legal speed (41_encoder.md R148, 10_state.md R37). -/
theorem speedLegal_some {c : Cfg} {rate : Word} (h : ¬Cfg.badSpeed c rate = true) : SpeedLegal c (some rate) := by
  simpa [SpeedLegal] using h

theorem setMinspdCmd_edits (dev : Byte) (rate : Word) (s : State) : Edits .command s (setMinspdCmd dev rate s).1 :=
  withHandle_edits fun i _ => by
    split_ifs with hbad
    · exact .refl
    · dsimp only
      exact modDevice_edits fun _ _ ⟨hdelay, hcmd, _, hrest⟩ => ⟨hdelay, hcmd, speedLegal_some hbad, hrest⟩

theorem setMaxspdCmd_edits (dev : Byte) (rate : Word) (s : State) : Edits .command s (setMaxspdCmd dev rate s).1 :=
  withHandle_edits fun i _ => by
    split_ifs with hbad
    · exact .refl
    · dsimp only
      exact modDevice_edits fun _ _ ⟨hdelay, hcmd, hmin, _, hrest⟩ => ⟨hdelay, hcmd, hmin, speedLegal_some hbad, hrest⟩

theorem stkPushCmd_edits (dev : Byte) (value : Word) (s : State) : Edits .command s (stkPushCmd dev value s).1 :=
  withHandle_edits fun i _ => by
    split_ifs with hv
    · exact .refl
    · exact (push_edit fun _ _ => Nat.lt_of_not_le hv).edits

theorem stkPopCmd_edits (dev : Byte) (s : State) : Edits .command s (stkPopCmd dev s).1 :=
  withHandle_edits fun i _ => by
    have hp : Edit .command s (s.pop i).2 := pop_edit s i
    split <;> next h =>
      rw [h] at hp
      exact hp.edits

theorem moveAsyncCmd_edits (dev : Byte) (steps : Word) (cb : Callback) (s : State) :
    Edits .command s (moveAsyncCmd dev steps cb s).1 :=
  withHandle_edits fun i hu => by
    split
    next ht => exact (startBurst_edit (fun _ => hu) ht).edits
    next => exact .refl

/-- Whether a command writes a position (10_state.md R30). -/
def Instr.scope : Instr → Scope
  | .setPos _ _ | .moveTo _ _ | .moveMulti _ _ => .move
  | _ => .command

/-- A command in handler context is a chain of edits (60_exceptions.md R279). -/
theorem handlerCommand_edits (i : Instr) (s : State) : Edits (Instr.scope i) s (handlerCommand i s).1 := by
  cases i with
  | alloc => exact allocCmd_edits s
  | config2 => exact config2Cmd_edits ..
  | config4 => exact config4Cmd_edits ..
  | setDir => exact setDirCmd_edits ..
  | setEn => exact setEnCmd_edits ..
  | setDelay => exact setDelayCmd_edits ..
  | setAccel => exact setAccelCmd_edits ..
  | setPos => exact setPosCmd_edits ..
  | setMinspd => exact setMinspdCmd_edits ..
  | setMaxspd => exact setMaxspdCmd_edits ..
  | spd2dly | dly2spd | get =>
    simp only [handlerCommand, spd2dlyCmd_state, dly2spdCmd_state, getCmd_state]
    exact .refl
  | stkPush => exact stkPushCmd_edits ..
  | stkPop => exact stkPopCmd_edits ..
  | moveAsyncNone | moveAsyncRamp | moveAsyncUser => exact moveAsyncCmd_edits ..
  | moveBlock | waitIdle | moveTo | moveMulti => exact .refl

/-! ## The callbacks -/

theorem accelDown_edits (i : Nat) (s : State) : Edits .command s (accelDown i s) := by
  unfold accelDown
  split
  · have hp : Edit .command s (s.pop i).2 := pop_edit s i
    split
    next r t h =>
      rw [h] at hp
      exact hp.edits.trans (setDelay_edits t i _)
    next => exact (Edit.raise (by decide)).edits
  · exact modDevice_free_edits

theorem countCoast_edits (s : State) (i : Nat) : Edits .command s (s.countCoast i) := by
  unfold State.countCoast
  split
  · have hwrite : Edits .command s (s.modDevice i fun d => { d with coastingSlices := Config.freeCoast s.freeIx }) :=
      modDevice_free_edits
    exact hwrite.tail (.outside rfl)
  · exact modDevice_free_edits

theorem accelUp_edits (i : Nat) (s : State) : Edits .command s (accelUp i s) := by
  unfold accelUp
  split
  · exact (Edit.raise (by decide)).edits
  · dsimp only
    split
    · exact (countCoast_edits s i).trans (setDelay_edits _ i _)
    · exact (push_edit fun _ ⟨⟨_, hdelay⟩, _⟩ => hdelay).edits.trans (setDelay_edits _ i _)

theorem accelCallback_edits (i : Nat) (s : State) : Edits .command s (accelCallback i s) := by
  unfold accelCallback
  dsimp only
  split
  · exact .refl
  · split
    · exact .refl
    · exact accelDown_edits i s
    · exact accelUp_edits i s

/-- A fold of chains of edits is a chain of edits. -/
theorem foldl_edits {α : Type} {k : Scope} {f : State → α → State} (hf : ∀ s a, Edits k s (f s a)) (l : List α)
    (s : State) : Edits k s (l.foldl f s) :=
  List.foldlRecOn (motive := Edits k s) l f .refl fun t ht a _ => ht.trans (hf t a)

theorem handlerStep_edits (s : State) (i : Instr) : Edits .move s (handlerStep s i) :=
  .tail (handlerCommand_edits i s).widen (.outside rfl)

theorem runHandler_edits (tag : Byte) (i : Nat) (s : State) : Edits .move s (runHandler tag i s) := by
  unfold runHandler
  extract_lets called
  exact .trans (b := called) (.single (.outside rfl)) (foldl_edits handlerStep_edits _ called)

theorem runCallback_edits (i : Nat) (s : State) : Edits .move s (runCallback i s) := by
  unfold runCallback
  split
  · exact .refl
  · exact (accelCallback_edits i s).widen
  · exact runHandler_edits _ i s

/-! ## The prologues -/

theorem beginMoveTo_edits (s : State) (i : Nat) (target minSpeed : Word) :
    Edits .move s (s.beginMoveTo i target minSpeed) := by
  refine .tail (.tail (.trans (b := s.modDevice i fun d => { d with position := target }) ?_ (setDelay_edits _ i _))
    (.modDevice ?_)) (clearStack_edit _ i)
  · exact modDevice_free_edits (hpos := fun hk => absurd rfl hk)
  · intro _ _ ⟨hdelay, _, hmin, hmax, hstack, _⟩
    exact ⟨hdelay, rfl, hmin, hmax, hstack, by simp⟩

theorem beginAxis_edits {most : Nat} (hmost : 1 ≤ (wordOf most).toNat) (s : State) (a : AxisTarget) :
    Edits .move s (State.beginAxis most s a) := by
  unfold State.beginAxis
  extract_lets i dist dir s1 s2
  have hclear : Edits .move s s2 := by
    refine .tail (.single (.modDevice ?_ (hpos := fun hk => absurd rfl hk))) (clearStack_edit s1 i)
    intro _ _ ⟨hdelay, _, hmin, hmax, hstack, _⟩
    exact ⟨hdelay, rfl, hmin, hmax, hstack, hmost⟩
  split
  · split
    · exact hclear.trans (setDelay_edits _ _ _)
    · exact hclear
  · exact hclear

theorem distance_lt (target position : Word) : distance target position < 2 ^ 32 := by
  have h1 := target.toInt_lt
  have h2 := target.le_toInt
  have h3 := position.toInt_lt
  have h4 := position.le_toInt
  unfold distance
  omega

theorem distance_pos {target position : Word} (h : target ≠ position) : 0 < distance target position := by
  have : target.toInt ≠ position.toInt := fun he => h (BitVec.eq_of_toInt_eq he)
  unfold distance
  omega

/-- A running maximum is at least each of its terms, and below what bounds them. -/
theorem foldl_max_bounds {α : Type} {f : α → Nat} {b : Nat} (hf : ∀ a, f a < b) (l : List α) (m : Nat) (hm : m < b) :
    m ≤ l.foldl (fun m a => max m (f a)) m ∧ l.foldl (fun m a => max m (f a)) m < b ∧
      ∀ a ∈ l, f a ≤ l.foldl (fun m a => max m (f a)) m := by
  induction l generalizing m with
  | nil => exact ⟨le_rfl, hm, by simp⟩
  | cons a l ih =>
    obtain ⟨hle, hlt, hall⟩ := ih (max m (f a)) (max_lt hm (hf a))
    exact ⟨(le_max_left _ _).trans hle, hlt, List.forall_mem_cons.2 ⟨(le_max_right _ _).trans hle, hall⟩⟩

/-- With an axis away from its target the largest distance is a denominator of 32 bits (45_multi_axis.md R244, R246). -/
theorem wordOf_mostSteps_pos {s : State} {axes : List AxisTarget} (h : ¬axes.all s.atTarget = true) :
    1 ≤ (wordOf (s.mostSteps axes)).toNat := by
  obtain ⟨-, hlt, hall⟩ := foldl_max_bounds (f := s.axisDist) (fun a => distance_lt _ _) axes 0 (by decide)
  simp only [List.all_eq_true, not_forall] at h
  obtain ⟨a, ha, hat⟩ := h
  have hpos : 0 < s.axisDist a := distance_pos (by simpa [State.atTarget] using hat)
  have hle : s.axisDist a ≤ s.mostSteps axes := hall a ha
  have hlt : s.mostSteps axes < 2 ^ 32 := hlt
  rw [wordOf, BitVec.toNat_ofNat, Nat.mod_eq_of_lt hlt]
  omega

theorem beginMulti_edits {s : State} {axes : List AxisTarget} (h : ¬axes.all s.atTarget = true) :
    Edits .move s (s.beginMulti axes) :=
  foldl_edits (beginAxis_edits (wordOf_mostSteps_pos h)) axes s

theorem turnAxes_edits (s : State) (axes : List Axis) : Edits .sequencer s (s.turnAxes axes) :=
  foldl_edits (fun _ _ => modDevice_free_edits) axes s

end Sys2Proof.Machine

/-! # What a step can do

The accepted command (`Accepted`), the sequencer's step (`Sequenced`) and the turn of an agent (`Turn`), each said once:
chains of edits, and the few writes that are no edit. Every statement about all steps below is a case split on `Turn`. -/

namespace Sys2Proof.Machine

open Sys2Proof.Safety

/-- The slots a sequencer state works on. -/
def Seq.slots : Seq → List Nat
  | .idle => []
  | .block i _ _ _ _ | .blockDrain i _ | .waitIdle i | .to i _ _ _ _ | .toWait i _ _ _ _ => [i]
  | .multi ctx _ _ _ _ | .multiWait ctx _ _ _ _ => ctx.axes.map Axis.slot

/-- The slot on which MOVE_BLOCK is in progress. -/
def Seq.blocks : Seq → Option Nat
  | .block i _ _ _ _ | .blockDrain i _ => some i
  | .idle | .waitIdle _ | .to _ _ _ _ _ | .toWait _ _ _ _ _ | .multi _ _ _ _ _ | .multiWait _ _ _ _ _ => none

theorem seqLegal_iff (s : State) : SeqLegal s ↔ ∀ i ∈ s.seq.slots, (s.device i).inUse = true := by
  unfold SeqLegal
  cases s.seq <;> simp [Seq.slots]

theorem blockOn_iff (s : State) (i : Nat) : blockOn s i = true ↔ s.seq.blocks = some i := by
  unfold blockOn
  cases s.seq <;> simp [Seq.blocks, @eq_comm _ i]

theorem blockOn_congr {s t : State} (h : t.seq.blocks = s.seq.blocks) (i : Nat) : blockOn t i = blockOn s i := by
  rw [Bool.eq_iff_iff, blockOn_iff, blockOn_iff, h]

/-- MOVE_BLOCK is in progress only on a slot the sequencer works on. -/
theorem Seq.mem_slots_of_blocks {q : Seq} {i : Nat} (h : q.blocks = some i) : i ∈ q.slots := by
  cases q <;> simp_all [Seq.blocks, Seq.slots]

/-- The sequencer goes on with the move it runs: it is not idle, its slots are among those it had, and MOVE_BLOCK is in
progress where it was. -/
structure Seq.Continues (p q : Seq) : Prop where
  ne_idle : q ≠ .idle
  blocks : q.blocks = p.blocks
  slots : ∀ i ∈ q.slots, i ∈ p.slots

/-! ## The accepted command -/

/-- What the acceptance of a command in thread context can do (30_encoding.md R95, 10_state.md R45, R46): it ends with
its result, it starts the sequencer on claimed slots, or it starts a MOVE_BLOCK on an idle claimed slot. -/
inductive Accepted (k : Scope) (s : State) : State → Prop
  | ends {u : State} {r : Result} (h : Edits k s u) : Accepted k s (u.latch r)
  | starts {u : State} {q : Seq} (h : Edits k s u) (hq : q ≠ .idle) (hb : q.blocks = none)
      (hslots : ∀ i ∈ q.slots, (s.device i).inUse = true) : Accepted k s (u.beginMacro q)
  | block {i n : Nat} {v delayStep : Int} {dir : Bool} (hu : (s.device i).inUse = true)
      (hr : (s.device i).running = false) :
      Accepted k s ((s.modDevice i fun d => { d with running := true }).beginMacro (.block i n v dir delayStep))

theorem inUse_of_validHandle {s : State} {h : Byte} (hv : s.validHandle h = true) : (s.device h.toNat).inUse = true :=
  ((validHandle_iff s h).1 hv).2.2

theorem moveBlock_accepted {k : Scope} {dev : Byte} {dir : Bool} {steps startDelay delayStep : Word} {s t : State}
    (h : execMoveBlock dev dir steps startDelay delayStep s = .next t) : Accepted k s t := by
  unfold execMoveBlock moveBlockPrologue at h
  dsimp only at h
  split_ifs at h with hv hc hr hd
  all_goals cases h
  case neg => exact .block (inUse_of_validHandle (by simpa using hv)) (by simpa using hr)
  all_goals exact .ends .refl

theorem waitIdle_accepted {k : Scope} {dev : Byte} {s t : State} (h : execWaitIdle dev s = .next t) :
    Accepted k s t := by
  unfold execWaitIdle waitIdlePrologue at h
  split_ifs at h with hv
  all_goals cases h
  · exact .starts .refl (by simp) rfl (by simpa [Seq.slots] using inUse_of_validHandle hv)
  · exact .ends .refl

theorem moveTo_accepted {dev : Byte} {target : Word} {s t : State} (h : execMoveTo dev target s = .next t) :
    Accepted .move s t := by
  unfold execMoveTo moveToPrologue at h
  dsimp only at h
  split at h
  · cases h
    exact .ends .refl
  next hv =>
    split at h
    · cases h
      exact .ends .refl
    split at h
    · split_ifs at h
      · cases h
        exact .ends .refl
      · cases h
        exact .starts (beginMoveTo_edits ..) (by simp) rfl
          (by simpa [Seq.slots] using inUse_of_validHandle (by simpa using hv))
    · cases h
      exact .ends .refl

/-- The axes of MOVE_MULTI's context are the slots of its handles (45_multi_axis.md R243). -/
theorem multiCtx_slots (s : State) (sequential : Bool) (axes : List (Byte × Word)) :
    (s.multiCtx sequential (axisTargets axes)).axes.map Axis.slot = axes.map fun a => a.1.toNat := by
  simp [State.multiCtx, axisTargets]

theorem moveMulti_accepted {sequential : Bool} {axes : List (Byte × Word)} {s t : State}
    (h : execMoveMulti sequential axes s = .next t) : Accepted .move s t := by
  unfold execMoveMulti moveMultiPrologue at h
  dsimp only at h
  split_ifs at h with hn hv hnd hat hready hrun
  all_goals cases h
  case neg =>
    refine .starts (beginMulti_edits hat) (by simp) rfl fun i hi => ?_
    rw [Seq.slots, multiCtx_slots, List.mem_map] at hi
    obtain ⟨a, ha, rfl⟩ := hi
    simp only [Bool.not_eq_true', Bool.not_eq_false, List.all_eq_true] at hv
    exact inUse_of_validHandle (hv a ha)
  all_goals exact .ends .refl

/-- What a command can do at its acceptance, with the scope of its edits. -/
theorem exec_cases {i : Instr} {s t : State} (h : exec i s = .next t) : Accepted (Instr.scope i) s t := by
  cases hi : i.isMacro with
  | false =>
    rw [exec_of_simple hi] at h
    cases h
    exact .ends (handlerCommand_edits i s)
  | true =>
    cases i
    case moveBlock => exact moveBlock_accepted h
    case waitIdle => exact waitIdle_accepted h
    case moveTo => exact moveTo_accepted h
    case moveMulti => exact moveMulti_accepted h
    all_goals simp [Instr.isMacro] at hi

/-! ## The sequencer -/

/-- What a step of the sequencer can do (10_state.md R45): go on after edits, push one word where there is room, end the
command, or end a MOVE_BLOCK in its drain. -/
inductive Sequenced (s : State) : State → Prop
  | goes {u : State} {q : Seq} (h : Edits .sequencer s u) (hq : s.seq.Continues q) : Sequenced s (u.setSeq q)
  | pushes {i : Nat} {w : Word} {q : Seq} (hroom : s.queueFull (s.device i).pgChan = false) (hq : s.seq.Continues q) :
      Sequenced s ((s.writePGQ i w).setSeq q)
  | ends {r : Result} (hb : s.seq.blocks = none) : Sequenced s (s.endMacro r)
  | drains {i : Nat} {r : Result} (hq : s.seq = .blockDrain i r) :
      Sequenced s ((s.modDevice i fun d => { d with running := false }).endMacro r)

theorem blockStep_cases {i k : Nat} {v delayStep : Int} {dir : Bool} {s t : State}
    (hs : s.seq = .block i k v dir delayStep) (h : blockStep i k v dir delayStep s = some t) : Sequenced s t := by
  have hdrain : ∀ r, s.seq.Continues (.blockDrain i r) := fun r => ⟨by simp, by rw [hs]; rfl, by simp [hs, Seq.slots]⟩
  cases k with
  | zero =>
    cases h
    exact .goes .refl (hdrain _)
  | succ k =>
    unfold blockStep at h
    dsimp only at h
    split_ifs at h with hv hfull
    · cases h
      exact .goes (Edit.raise (by decide)).edits (hdrain _)
    · cases h
      exact .pushes (by simpa using hfull) ⟨by simp, by rw [hs]; rfl, by simp [hs, Seq.slots]⟩

theorem blockDrainStep_cases {i : Nat} {r : Result} {s t : State} (hs : s.seq = .blockDrain i r)
    (h : blockDrainStep i r s = some t) : Sequenced s t := by
  unfold blockDrainStep at h
  split_ifs at h
  cases h
  exact .drains hs

theorem waitIdleStep_cases {i : Nat} {s t : State} (hs : s.seq = .waitIdle i) (h : waitIdleStep i s = some t) :
    Sequenced s t := by
  unfold waitIdleStep at h
  split_ifs at h
  cases h
  exact .ends (by rw [hs]; rfl)

theorem toStep_cases {i : Nat} {phase : Phase} {k rem half : Nat} {s : State} (hs : s.seq = .to i phase k rem half) :
    Sequenced s (toStep i phase k rem half s) := by
  have hto : ∀ p k r, s.seq.Continues (.to i p k r half) :=
    fun p k r => ⟨by simp, by rw [hs]; rfl, by simp [hs, Seq.slots]⟩
  have hwait : ∀ p k r, s.seq.Continues (.toWait i p k r half) :=
    fun p k r => ⟨by simp, by rw [hs]; rfl, by simp [hs, Seq.slots]⟩
  have hdispatch : ∀ n cb, Edits .sequencer s (s.seqDispatch i n cb) := fun n cb =>
    (seqDispatch_edit (fun hl => (seqLegal_iff s).1 hl i (by simp [hs, Seq.slots])) n cb).edits
  cases phase with
  | accel =>
    cases k with
    | zero => exact .goes .refl (hto _ _ _)
    | succ k => exact .goes (hdispatch _ _) (hwait _ _ _)
  | remainder =>
    unfold toStep
    dsimp only
    split
    · exact .goes (hdispatch _ _) (hwait _ _ _)
    · exact .goes modDevice_free_edits (hto _ _ _)
  | decel =>
    cases k with
    | zero => exact .ends (by rw [hs]; rfl)
    | succ k => exact .goes (hdispatch _ _) (hwait _ _ _)

theorem toWaitStep_cases {i : Nat} {phase : Phase} {k rem half : Nat} {s t : State}
    (hs : s.seq = .toWait i phase k rem half) (h : toWaitStep i phase k rem half s = some t) : Sequenced s t := by
  unfold toWaitStep at h
  split_ifs at h
  cases h
  exact .goes .refl ⟨by simp, by rw [hs]; rfl, by simp [hs, Seq.slots]⟩

/-- Crediting an axis leaves the slots of the axes. -/
theorem MultiCtx.credit_slots (ctx : MultiCtx) (j : Nat) (delta : Int) :
    (ctx.credit j delta).axes.map Axis.slot = ctx.axes.map Axis.slot := by
  refine List.ext_getElem? fun n => ?_
  simp only [MultiCtx.credit, List.getElem?_map, List.getElem?_modify]
  cases ctx.axes[n]? <;> simp [apply_ite Axis.slot]

/-- A sequencer state that runs MOVE_MULTI on the axes of `ctx`. -/
structure Seq.RunsMulti (ctx : MultiCtx) (q : Seq) : Prop where
  ne_idle : q ≠ .idle
  blocks : q.blocks = none
  slots : q.slots = ctx.axes.map Axis.slot

theorem runsMulti_multi (ctx : MultiCtx) (phase : Phase) (k j : Nat) (set : List Nat) :
    Seq.RunsMulti ctx (.multi ctx phase k j set) := ⟨by simp, rfl, rfl⟩

theorem runsMulti_multiWait (ctx : MultiCtx) (phase : Phase) (k j : Nat) (set : List Nat) :
    Seq.RunsMulti ctx (.multiWait ctx phase k j set) := ⟨by simp, rfl, rfl⟩

theorem runsMulti_afterSlice (ctx : MultiCtx) (phase : Phase) (k : Nat) :
    Seq.RunsMulti ctx (afterSlice ctx phase k) := by
  cases phase <;> exact runsMulti_multi ..

theorem runsMulti_nextAxis (ctx : MultiCtx) (phase : Phase) (k j : Nat) (set : List Nat) (slot : Nat) (sent : Bool) :
    Seq.RunsMulti ctx (nextAxis ctx phase k j set slot sent) := by
  unfold nextAxis
  dsimp only
  split
  · split
    · exact runsMulti_multiWait ..
    · split
      · exact runsMulti_multi ..
      · exact runsMulti_afterSlice ..
  · split
    · exact runsMulti_multi ..
    · exact runsMulti_multiWait ..

/-- MOVE_MULTI goes on where it ran on the same slots. -/
theorem Seq.RunsMulti.continues {ctx ctx' : MultiCtx} {p q : Seq} (hp : p.RunsMulti ctx) (hq : q.RunsMulti ctx')
    (h : ctx'.axes.map Axis.slot = ctx.axes.map Axis.slot) : p.Continues q :=
  ⟨hq.ne_idle, hq.blocks.trans hp.blocks.symm, fun i hi => by rwa [hp.slots, ← h, ← hq.slots]⟩

/-- An internal dispatch on an axis of the running MOVE_MULTI. -/
theorem seqDispatch_axis_edits {ctx : MultiCtx} {j n : Nat} {a : Axis} {cb : Callback} {s : State}
    (hs : s.seq.RunsMulti ctx) (ha : ctx.axes[j]? = some a) : Edits .sequencer s (s.seqDispatch a.slot n cb) := by
  have hmem : a.slot ∈ s.seq.slots := hs.slots ▸ List.mem_map_of_mem (List.mem_of_getElem? ha)
  exact (seqDispatch_edit (fun hl => (seqLegal_iff s).1 hl _ hmem) n cb).edits

theorem rampAxis_cases {ctx : MultiCtx} {phase : Phase} {k j : Nat} {set : List Nat} {a : Axis} {s : State}
    (hs : s.seq.RunsMulti ctx) (ha : ctx.axes[j]? = some a) : Sequenced s (rampAxis ctx phase k j set a s) := by
  unfold rampAxis
  split
  · exact .goes (seqDispatch_axis_edits hs ha) (hs.continues (runsMulti_nextAxis ..) (ctx.credit_slots ..))
  · exact .goes .refl (hs.continues (runsMulti_nextAxis ..) (ctx.credit_slots ..))

theorem remainderAxis_cases {ctx : MultiCtx} {k j : Nat} {set : List Nat} {a : Axis} {s : State}
    (hs : s.seq.RunsMulti ctx) (ha : ctx.axes[j]? = some a) : Sequenced s (remainderAxis ctx k j set a s) := by
  have hnext : ∀ sent, s.seq.Continues (nextAxis ctx .remainder k j set a.slot sent) := fun sent =>
    hs.continues (runsMulti_nextAxis ..) rfl
  unfold remainderAxis
  split
  · exact .goes .refl (hnext _)
  · split
    · exact .goes (Edit.raise (by decide)).edits (hnext _)
    · exact .goes (seqDispatch_axis_edits hs ha) (hnext _)

theorem multiStep_cases {ctx : MultiCtx} {phase : Phase} {k j : Nat} {set : List Nat} {s : State}
    (hs : s.seq = .multi ctx phase k j set) : Sequenced s (multiStep ctx phase k j set s) := by
  have hruns : s.seq.RunsMulti ctx := hs ▸ runsMulti_multi ..
  have hmulti : ∀ p k, s.seq.Continues (.multi ctx p k 0 []) := fun p k => hruns.continues (runsMulti_multi ..) rfl
  cases phase <;> cases ha : ctx.axes[j]?
  all_goals simp only [multiStep, ha]
  case accel.none => exact .goes .refl (hmulti _ _)
  case remainder.none => exact .goes (turnAxes_edits s _) (hmulti _ _)
  case decel.none => exact .ends hruns.blocks
  case remainder.some => exact remainderAxis_cases hruns ha
  case accel.some =>
    split
    · exact .goes .refl (hmulti _ _)
    · exact rampAxis_cases hruns ha
  case decel.some =>
    split
    · exact .ends hruns.blocks
    · exact rampAxis_cases hruns ha

theorem multiWaitStep_cases {ctx : MultiCtx} {phase : Phase} {k j : Nat} {set : List Nat} {s t : State}
    (hs : s.seq = .multiWait ctx phase k j set) (h : multiWaitStep ctx phase k j set s = some t) : Sequenced s t := by
  have hruns : s.seq.RunsMulti ctx := hs ▸ runsMulti_multiWait ..
  unfold multiWaitStep at h
  split_ifs at h
  · cases h
    exact .goes .refl (hruns.continues (runsMulti_multi ..) rfl)
  · cases h
    exact .goes .refl (hruns.continues (runsMulti_afterSlice ..) rfl)

theorem sequencerStep_cases {s t : State} (h : sequencerStep s = some t) : s.seq ≠ .idle ∧ Sequenced s t := by
  unfold sequencerStep at h
  split at h
  next => cases h
  next hs => exact ⟨by simp [hs], blockStep_cases hs h⟩
  next hs => exact ⟨by simp [hs], blockDrainStep_cases hs h⟩
  next hs => exact ⟨by simp [hs], waitIdleStep_cases hs h⟩
  next hs =>
    cases h
    exact ⟨by simp [hs], toStep_cases hs⟩
  next hs => exact ⟨by simp [hs], toWaitStep_cases hs h⟩
  next hs =>
    cases h
    exact ⟨by simp [hs], multiStep_cases hs⟩
  next hs => exact ⟨by simp [hs], multiWaitStep_cases hs h⟩

/-! ## The agents -/

/-- What the enabled step of an agent can do. -/
inductive Turn : Agent → State → State → Prop
  | accept {k : Scope} {s t : State} (hfree : s.cmdBusy = false) (h : Accepted k s t) : Turn .host s t
  | sequence {s t : State} (hs : s.seq ≠ .idle) (h : Sequenced s t) : Turn .sequencer s t
  | beat {c : Nat} {s t : State} (h : beatStep c s = some t) : Turn (.burst c) s t
  | pulse {p : Nat} {s t : State} (h : pulseStep p s = some t) : Turn (.pulseGen p) s t
  | dispatch {s t : State} (h : dispatchStep s = some t) : Turn .dispatcher s t
  | reset {s : State} : Turn .platformReset s (platformReset s)

/-- The step of an agent as the machine sees it: it changes nothing the invariants speak of, or it is a turn from a state
that differs in nothing they speak of. -/
def TakesTurn (a : Agent) (s t : State) : Prop := ∃ u, u.bare = s.bare ∧ (t = u ∨ Turn a u t)

theorem TakesTurn.nothing {a : Agent} {s t : State} (h : t.bare = s.bare) : TakesTurn a s t := ⟨t, h, .inl rfl⟩

theorem runDecoded_cases {d : Decoded} {s t : State} (h : runDecoded d s = .next t) : ∃ k, Accepted k s t := by
  cases d with
  | command i => exact ⟨_, exec_cases h⟩
  | illegalCommand | badArgument =>
    cases h
    exact ⟨.command, .ends .refl⟩

theorem acceptWord_cases {w : Word} {s t : State} (hfree : s.cmdBusy = false) (h : acceptWord w s = .next t) :
    TakesTurn .host s t := by
  unfold acceptWord at h
  split at h
  · cases h
    exact .nothing rfl
  · obtain ⟨k, ht⟩ := runDecoded_cases h
    exact ⟨{ s with cmdBuf := [] }, rfl, .inr (.accept hfree ht)⟩

theorem windowWrite_cases {r : WindowReg} {w : Word} {s t : State} (h : windowWrite r w s = .next t) :
    TakesTurn .host s t := by
  cases r
  case cmd =>
    unfold windowWrite at h
    dsimp only at h
    split_ifs at h with hbusy
    · cases h
      exact .nothing rfl
    · obtain ⟨u, hu, ht⟩ := acceptWord_cases (by simpa using hbusy) h
      exact ⟨u, hu.trans rfl, ht⟩
  all_goals
    cases h
    exact .nothing rfl

theorem hostStep_cases {s t : State} (h : hostStep s = some (.next t)) : TakesTurn .host s t := by
  unfold hostStep at h
  split at h
  · cases h
  next op rest _ =>
    have h := Option.some.inj h
    cases op with
    | read addr size =>
      simp only [hostAccess] at h
      split at h <;> cases h <;> exact .nothing rfl
    | write addr size data =>
      simp only [hostAccess] at h
      split at h
      · obtain ⟨u, hu, ht⟩ := windowWrite_cases h
        exact ⟨u, hu.trans rfl, ht⟩
      · cases h
        exact .nothing rfl

theorem agentStep_cases {a : Agent} {s t : State} (h : agentStep a s = some (.next t)) : TakesTurn a s t := by
  cases a with
  | host => exact hostStep_cases h
  | sequencer =>
    obtain ⟨hs, ht⟩ := sequencerStep_cases (by simpa [agentStep] using h)
    exact ⟨s, rfl, .inr (.sequence hs ht)⟩
  | burst c => exact ⟨s, rfl, .inr (.beat (by simpa [agentStep] using h))⟩
  | pulseGen p => exact ⟨s, rfl, .inr (.pulse (by simpa [agentStep] using h))⟩
  | dispatcher => exact ⟨s, rfl, .inr (.dispatch (by simpa [agentStep] using h))⟩
  | platformReset =>
    cases h
    exact ⟨s, rfl, .inr .reset⟩

/-- What a step can do: nothing the invariants speak of, or a turn of the agent at the front of the schedule. -/
theorem step_turn {s t : State} (h : step s = .next t) :
    ∃ u, u.bare = s.bare ∧ (t = u ∨ ∃ a, s.schedule.head? = some a ∧ Turn a u t) := by
  obtain ⟨-, hs⟩ | ⟨a, rest, hsch, ⟨-, hs⟩ | ⟨out, ha, hs⟩⟩ := step_cases (cfg_ok_of_step h)
  · cases h.symm.trans hs
    exact ⟨s, rfl, .inl rfl⟩
  · cases h.symm.trans hs
    exact ⟨{ s with schedule := rest }, rfl, .inl rfl⟩
  · cases hs.symm.trans h
    obtain ⟨u, hu, ht⟩ := agentStep_cases ha
    exact ⟨u, hu.trans rfl, ht.imp_right fun ht => ⟨a, by simp [hsch], ht⟩⟩

end Sys2Proof.Machine

/-! # Ports, queues, legal devices, positions -/

namespace Sys2Proof.Machine

open Sys2Proof.Safety

/-- What one edit keeps a chain keeps. -/
theorem Edits.preserve {k : Scope} {p : State → Prop} (hp : ∀ {u v : State}, Edit k u v → p u → p v) {s t : State}
    (h : Edits k s t) (hs : p s) : p t := by
  induction h with
  | refl => exact hs
  | tail _ he ih => exact hp he ih

/-- One completed channel: a fault where no slot is mapped, else `running` of the slot falls and edits follow
(60_exceptions.md R275, R277). -/
theorem completeChannel_cases (s : State) (c : Nat) :
    (s.slotOf c = none ∧ Edits .move s (completeChannel s c)) ∨
      ∃ i, s.slotOf c = some i ∧ Edits .move (s.completeDevice i) (completeChannel s c) := by
  unfold completeChannel
  cases h : s.slotOf c with
  | none => exact .inl ⟨rfl, (Edit.raise (by decide)).edits⟩
  | some i => exact .inr ⟨i, rfl, runCallback_edits i _⟩

/-- What the fall of `running` and every edit keep a dispatch keeps, where the flags it takes do not matter. -/
theorem dispatch_preserve {p : State → Prop} (hflags : ∀ {u : State} (f : Word), p u → p { u with irqFlags := f })
    (hcomplete : ∀ {u : State} (i : Nat), p u → p (u.completeDevice i))
    (hedit : ∀ {u v : State}, Edit .move u v → p u → p v) {s t : State} (h : dispatchStep s = some t) (hs : p s) :
    p t := by
  obtain ⟨-, rfl⟩ := (dispatchStep_some_iff s t).1 h
  refine List.foldlRecOn (motive := p) _ _ (hflags _ hs) fun u hu c _ => ?_
  obtain ⟨-, he⟩ | ⟨i, -, he⟩ := completeChannel_cases u c
  · exact he.preserve hedit hu
  · exact he.preserve hedit (hcomplete i hu)

/-! ## What no edit touches -/

/-- What no edit touches but the flags: the configuration, the sequencer, the port, the queues and their logs. -/
def State.still (s : State) : Cfg × Seq × Bool × List (List Word) × List (List Word) :=
  (s.cfg, s.seq, s.cmdBusy, s.pgq, s.pulseLog)

theorem State.still_inj {s t : State} : t.still = s.still ↔
    t.cfg = s.cfg ∧ t.seq = s.seq ∧ t.cmdBusy = s.cmdBusy ∧ t.pgq = s.pgq ∧ t.pulseLog = s.pulseLog := by
  simp [State.still]

/-- What is read of the state without the fields no invariant speaks of. -/
theorem State.eq_of_bare {α : Type} {s t : State} (h : t.bare = s.bare) (f : State → α)
    (hf : ∀ u : State, f u.bare = f u := by exact fun _ => rfl) : f t = f s := by
  rw [← hf t, ← hf s, h]

theorem State.still_eq_of_bare {s t : State} (h : t.bare = s.bare) : t.still = s.still := State.eq_of_bare h _

theorem Edit.still_eq {k : Scope} {s t : State} (h : Edit k s t) : t.still = s.still := by
  cases h with
  | outside h => exact State.still_eq_of_bare h
  | write | raise | arm | claim => rfl

theorem Edits.still_eq {k : Scope} {s t : State} (h : Edits k s t) : t.still = s.still :=
  h.preserve (p := fun u => u.still = s.still) (fun he hu => he.still_eq.trans hu) rfl

theorem Edits.seq_eq {k : Scope} {s t : State} (h : Edits k s t) : t.seq = s.seq :=
  (State.still_inj.1 h.still_eq).2.1

theorem Edit.irqFlags_eq {k : Scope} {s t : State} (h : Edit k s t) : t.irqFlags = s.irqFlags := by
  cases h with
  | outside h => exact State.eq_of_bare h _
  | write | raise | arm | claim => rfl

theorem Edits.irqFlags_eq {k : Scope} {s t : State} (h : Edits k s t) : t.irqFlags = s.irqFlags :=
  h.preserve (p := fun u => u.irqFlags = s.irqFlags) (fun he hu => he.irqFlags_eq.trans hu) rfl

theorem dispatchStep_still {s t : State} (h : dispatchStep s = some t) : t.still = s.still :=
  dispatch_preserve (p := fun u => u.still = s.still) (fun _ h => h) (fun _ h => h) (fun he h => he.still_eq.trans h) h
    rfl

theorem beatStep_port {c : Nat} {s t : State} (h : beatStep c s = some t) :
    t.cfg = s.cfg ∧ t.seq = s.seq ∧ t.cmdBusy = s.cmdBusy := by
  obtain ⟨-, -, rfl⟩ := (beatStep_some_iff c s t).1 h
  split <;> exact ⟨rfl, rfl, rfl⟩

theorem pulseStep_port {p : Nat} {s t : State} (h : pulseStep p s = some t) :
    t.cfg = s.cfg ∧ t.seq = s.seq ∧ t.cmdBusy = s.cmdBusy := by
  obtain ⟨w, rest, -, rfl⟩ := (pulseStep_some_iff p s t).1 h
  exact ⟨rfl, rfl, rfl⟩

/-! ## The port -/

/-- A free port means an idle sequencer (10_state.md R46). -/
theorem seq_idle_of_free {s : State} (hs : PortDiscipline s) (hfree : s.cmdBusy = false) : s.seq = .idle := by
  by_contra hne
  simp [hs.2 hne] at hfree

theorem Turn.portDiscipline {a : Agent} {s t : State} (h : Turn a s t) (hs : PortDiscipline s) : PortDiscipline t := by
  cases h with
  | accept hfree h =>
    have hidle := seq_idle_of_free hs hfree
    cases h with
    | ends h => simp [PortDiscipline, h.seq_eq, hidle]
    | starts _ hq => simpa [PortDiscipline] using hq
    | block => simp [PortDiscipline]
  | sequence hseq h =>
    have hbusy : s.cmdBusy = true := hs.2 hseq
    cases h with
    | goes h hq =>
      obtain ⟨-, -, hb, -, -⟩ := State.still_inj.1 h.still_eq
      simp [PortDiscipline, hb, hbusy, hq.ne_idle]
    | pushes _ hq => simp [PortDiscipline, hbusy, hq.ne_idle]
    | ends | drains => simp [PortDiscipline]
  | beat h =>
    obtain ⟨-, hseq, hbusy⟩ := beatStep_port h
    rwa [PortDiscipline, hseq, hbusy]
  | pulse h =>
    obtain ⟨-, hseq, hbusy⟩ := pulseStep_port h
    rwa [PortDiscipline, hseq, hbusy]
  | dispatch h =>
    obtain ⟨-, hseq, hbusy, -, -⟩ := State.still_inj.1 (dispatchStep_still h)
    rwa [PortDiscipline, hseq, hbusy]
  | reset => simp [PortDiscipline, platformReset, State.resetOf]

/-! ## The queues -/

theorem queuesBounded_of_still {s t : State} (h : t.still = s.still) (hs : QueuesBounded s) : QueuesBounded t := by
  obtain ⟨hcfg, -, -, hpgq, -⟩ := State.still_inj.1 h
  rwa [QueuesBounded, hcfg, hpgq]

/-- A queue replaced by one that is bounded (10_state.md R48). -/
theorem queuesBounded_setQueue {s : State} {p : Nat} {q : List Word} (hs : QueuesBounded s)
    (hq : q.length ≤ s.cfg.qDepth) : QueuesBounded (s.setQueue p q) := fun r hr => by
  obtain hr | rfl := List.mem_or_eq_of_mem_set hr
  · exact hs r hr
  · exact hq

/-- A word pushed where there is room (20_memory.md R73). -/
theorem queuesBounded_writePGQ {s : State} {i : Nat} {w : Word} (hs : QueuesBounded s)
    (hroom : s.queueFull (s.device i).pgChan = false) : QueuesBounded (s.writePGQ i w) := by
  have hlt : (s.queue (s.device i).pgChan).length < s.cfg.qDepth := by simpa [State.queueFull] using hroom
  exact queuesBounded_setQueue hs (by simpa using hlt)

/-- What is left of a queue once its head is consumed. -/
theorem queuesBounded_tail {s : State} {p : Nat} {w : Word} {rest : List Word} (hs : QueuesBounded s)
    (h : s.queue p = w :: rest) : rest.length ≤ s.cfg.qDepth := by
  have hp : p < s.pgq.length := State.lt_of_queue_ne_nil (by simp [h])
  have hmem : s.queue p ∈ s.pgq := by simp [State.queue, hp]
  have := hs _ hmem
  rw [h, List.length_cons] at this
  omega

theorem Turn.queuesBounded {a : Agent} {s t : State} (h : Turn a s t) (hs : QueuesBounded s) : QueuesBounded t := by
  cases h with
  | accept _ h =>
    cases h with
    | ends h | starts h => exact (queuesBounded_of_still h.still_eq hs :)
    | block => exact hs
  | sequence _ h =>
    cases h with
    | goes h => exact (queuesBounded_of_still h.still_eq hs :)
    | pushes hroom => exact (queuesBounded_writePGQ hs hroom :)
    | ends | drains => exact hs
  | @beat c _ _ h =>
    obtain ⟨-, hroom, rfl⟩ := (beatStep_some_iff c s t).1 h
    split <;> exact (queuesBounded_writePGQ hs hroom :)
  | @pulse p _ _ h =>
    obtain ⟨w, rest, hq, rfl⟩ := (pulseStep_some_iff p s t).1 h
    exact (queuesBounded_setQueue hs (queuesBounded_tail hs hq) :)
  | dispatch h => exact queuesBounded_of_still (dispatchStep_still h) hs
  | reset =>
    intro q hq
    rw [List.eq_of_mem_replicate hq]
    exact Nat.zero_le _

/-- Settles O15: a turn of any agent keeps the port discipline, and a queue grows only where there is room. -/
theorem stepKeepsPortDisciplineAndQueues : Obligations.StepKeepsPortDisciplineAndQueues := by
  intro s t h
  obtain ⟨u, hu, ht⟩ := step_turn h
  have hstill : u.still = s.still := State.still_eq_of_bare hu
  obtain ⟨-, hseq, hbusy, -, -⟩ := State.still_inj.1 hstill
  refine ⟨fun hs => ?_, fun hs => ?_⟩
  · have hp : PortDiscipline u := by rwa [PortDiscipline, hseq, hbusy]
    obtain rfl | ⟨a, -, ht⟩ := ht
    · exact hp
    · exact ht.portDiscipline hp
  · have hq : QueuesBounded u := queuesBounded_of_still hstill hs
    obtain rfl | ⟨a, -, ht⟩ := ht
    · exact hq
    · exact ht.queuesBounded hq

/-! ## Legal devices -/

theorem Edit.cfg_eq {k : Scope} {s t : State} (h : Edit k s t) : t.cfg = s.cfg := (State.still_inj.1 h.still_eq).1

/-- The record of a claimed slot is in the device file. -/
theorem State.device_mem {s : State} {i : Nat} (h : (s.device i).inUse = true) : s.device i ∈ s.dev := by
  have hi : i < s.dev.length := State.lt_of_inUse h
  simp [State.device, hi]

/-- A slot replaced by a record that is legal where it is claimed. -/
theorem devicesLegal_setDevice {s : State} {i : Nat} {d : Device} (hs : DevicesLegal s)
    (hd : d.inUse = true → DeviceLegal s.cfg d) : DevicesLegal (s.setDevice i d) := fun e he hu => by
  obtain he | rfl := List.mem_or_eq_of_mem_set he
  · exact hs e he hu
  · exact hd hu

/-- A write of fields that are no part of a device's legal values. -/
theorem devicesLegal_modDevice {s : State} {i : Nat} {f : Device → Device} (hs : DevicesLegal s)
    (hu : (f (s.device i)).inUse = (s.device i).inUse := by rfl)
    (hlegal : DeviceLegal s.cfg (f (s.device i)) = DeviceLegal s.cfg (s.device i) := by rfl) :
    DevicesLegal (s.modDevice i f) :=
  devicesLegal_setDevice hs fun h => hlegal ▸ hs _ (State.device_mem (hu ▸ h)) (hu ▸ h)

theorem devicesLegal_setRunning {s : State} (i : Nat) (b : Bool) (hs : DevicesLegal s) :
    DevicesLegal (s.modDevice i fun d => { d with running := b }) := devicesLegal_modDevice hs

/-- What ALLOC writes is legal (10_state.md R53). -/
theorem deviceLegal_allocated {c : Cfg} (hc : c.ok = true) (p e n : Nat) : DeviceLegal c (Device.allocated c p e n) := by
  have hlt : c.minDelay < 2 ^ 30 := Cfg.minDelay_lt hc
  have hdelay : (wordOf c.minDelay).toNat = c.minDelay := by
    rw [wordOf, BitVec.toNat_ofNat]
    omega
  refine ⟨?_, rfl, rfl, rfl, stackLegal_nil c, by simp [Device.allocated]⟩
  simpa [DelayInRange, Device.allocated, hdelay] using hlt

theorem Edit.devicesLegal {k : Scope} {s t : State} (h : Edit k s t) (hc : s.cfg.ok = true) (hs : DevicesLegal s) :
    DevicesLegal t := by
  cases h with
  | outside h =>
    have hcfg : t.cfg = s.cfg := State.eq_of_bare h _
    have hdev : t.dev = s.dev := State.eq_of_bare h _
    rwa [DevicesLegal, hcfg, hdev]
  | write hheld _ _ hlegal =>
    refine devicesLegal_setDevice hs fun hu => ?_
    rw [(Device.held_inj.1 hheld).1] at hu
    exact hlegal hc hu (hs _ (State.device_mem hu) hu)
  | raise => exact hs
  | @arm i _ cb =>
    have h : DevicesLegal (s.modDevice i fun d => { d with callback := cb, running := true }) :=
      devicesLegal_modDevice hs
    exact h
  | claim => exact (devicesLegal_setDevice hs fun _ => deviceLegal_allocated hc _ _ _ :)

theorem Edits.devicesLegal {k : Scope} {s t : State} (h : Edits k s t) (hc : s.cfg.ok = true) (hs : DevicesLegal s) :
    DevicesLegal t :=
  (h.preserve (p := fun u => u.cfg.ok = true ∧ DevicesLegal u)
    (fun he ⟨hc, hu⟩ => ⟨he.cfg_eq ▸ hc, he.devicesLegal hc hu⟩) ⟨hc, hs⟩).2

theorem Turn.devicesLegal {a : Agent} {s t : State} (h : Turn a s t) (hc : s.cfg.ok = true) (hs : DevicesLegal s) :
    DevicesLegal t := by
  cases h with
  | accept _ h =>
    cases h with
    | ends h | starts h => exact (h.devicesLegal hc hs :)
    | block => exact (devicesLegal_setRunning _ true hs :)
  | sequence _ h =>
    cases h with
    | goes h => exact (h.devicesLegal hc hs :)
    | pushes | ends => exact hs
    | drains => exact (devicesLegal_setRunning _ false hs :)
  | @beat c _ _ h =>
    obtain ⟨-, -, rfl⟩ := (beatStep_some_iff c s t).1 h
    split <;> exact hs
  | @pulse p _ _ h =>
    obtain ⟨w, rest, -, rfl⟩ := (pulseStep_some_iff p s t).1 h
    exact hs
  | dispatch h =>
    exact (dispatch_preserve (p := fun u => u.cfg.ok = true ∧ DevicesLegal u) (fun _ hu => hu)
      (fun i ⟨hc, hu⟩ => ⟨hc, devicesLegal_setRunning i false hu⟩)
      (fun he ⟨hc, hu⟩ => ⟨he.cfg_eq ▸ hc, he.devicesLegal hc hu⟩) h ⟨hc, hs⟩).2
  | reset =>
    intro d hd hu
    rw [List.eq_of_mem_replicate hd] at hu
    cases hu

/-- Settles O13: every write to a claimed slot keeps its legal values, ALLOC writes legal ones, and no slot is claimed
after reset. -/
theorem stepKeepsDevicesLegal : Obligations.StepKeepsDevicesLegal := by
  intro s t hs h
  obtain ⟨u, hu, ht⟩ := step_turn h
  have hcfg : u.cfg = s.cfg := State.eq_of_bare hu _
  have hdev : u.dev = s.dev := State.eq_of_bare hu _
  have hlegal : DevicesLegal u := by rwa [DevicesLegal, hcfg, hdev]
  obtain rfl | ⟨a, -, ht⟩ := ht
  · exact hlegal
  · exact ht.devicesLegal (hcfg ▸ cfg_ok_of_step h) hlegal

/-! ## Devices after an edit -/

theorem State.device_eq_of_bare {s t : State} (h : t.bare = s.bare) (j : Nat) : t.device j = s.device j :=
  State.eq_of_bare h fun u => u.device j

/-- A write at a slot reads back there, and the slot does not exist or another slot is read where it does not. -/
theorem State.device_setDevice (s : State) (i : Nat) (d : Device) (j : Nat) :
    (s.setDevice i d).device j = d ∧ j = i ∨ (s.setDevice i d).device j = s.device j := by
  by_cases hji : i = j
  · subst hji
    by_cases hi : i < s.dev.length
    · exact .inl ⟨State.device_setDevice_self hi, rfl⟩
    · exact .inr (by simp [State.device, State.setDevice, List.set_eq_of_length_le (Nat.le_of_not_lt hi)])
  · exact .inr (State.device_setDevice_ne hji)

/-- What a write gives the record it replaces it gives every slot. -/
theorem State.device_setDevice_congr {α : Type} {s : State} {i : Nat} {d : Device} (f : Device → α)
    (h : f d = f (s.device i)) (j : Nat) : f ((s.setDevice i d).device j) = f (s.device j) := by
  obtain ⟨hd, rfl⟩ | hd := s.device_setDevice i d j
  · rw [hd, h]
  · rw [hd]

/-- A write of `running` is no write of another field. -/
theorem State.device_setRunning_congr {α : Type} (s : State) (i : Nat) (b : Bool) (f : Device → α) (j : Nat)
    (h : f { s.device i with running := b } = f (s.device i) := by rfl) :
    f ((s.modDevice i fun d => { d with running := b }).device j) = f (s.device j) :=
  State.device_setDevice_congr f h j

/-- Arming a burst writes the slot's callback and `running` and nothing else of the device file. -/
theorem State.device_armed_congr {α : Type} (s : State) (i n : Nat) (cb : Callback) (f : Device → α) (j : Nat)
    (h : f { s.device i with callback := cb, running := true } = f (s.device i) := by rfl) :
    f ((s.armed i n cb).device j) = f (s.device j) :=
  State.device_setDevice_congr f h j

/-- A write elsewhere than at an unclaimed slot leaves a claimed one. -/
theorem State.device_claim {s : State} {i p c j : Nat} (hi : (s.device i).inUse = false)
    (hj : (s.device j).inUse = true) : (s.claim i p c).device j = s.device j :=
  State.device_setDevice_ne (s := s) (d := Device.allocated s.cfg p c s.freeIx) fun h => by simp [h, hj] at hi

/-! ## Positions -/

/-- A claim outlasts every edit. -/
theorem Edit.inUse {k : Scope} {s t : State} {j : Nat} (h : Edit k s t) (hj : (s.device j).inUse = true) :
    (t.device j).inUse = true := by
  cases h with
  | outside h => rwa [State.device_eq_of_bare h]
  | write hheld =>
    have hu := State.device_setDevice_congr Device.inUse (Device.held_inj.1 hheld).1 j
    exact hu.trans hj
  | raise => exact hj
  | arm => exact (s.device_armed_congr _ _ _ Device.inUse j).trans hj
  | claim _ _ hu => rwa [State.device_claim hu hj]

theorem Edits.inUse {k : Scope} {s t : State} {j : Nat} (h : Edits k s t) (hj : (s.device j).inUse = true) :
    (t.device j).inUse = true :=
  h.preserve (p := fun u => (u.device j).inUse = true) Edit.inUse hj

/-- No edit of the sequencer writes a position, nor one of a command that is no move the position of a claimed slot
(10_state.md R30). -/
theorem Edit.position_eq {k : Scope} (hk : k ≠ .move) {s t : State} {j : Nat} (h : Edit k s t)
    (hj : k = .sequencer ∨ (s.device j).inUse = true) : (t.device j).position = (s.device j).position := by
  cases h with
  | outside h => rw [State.device_eq_of_bare h]
  | write _ _ hpos => exact State.device_setDevice_congr Device.position (hpos hk) j
  | raise => rfl
  | arm => exact s.device_armed_congr _ _ _ Device.position j
  | claim hseq _ hu => rw [State.device_claim hu (hj.resolve_left hseq)]

theorem Edits.position_eq {k : Scope} (hk : k ≠ .move) {s t : State} {j : Nat} (h : Edits k s t)
    (hj : k = .sequencer ∨ (s.device j).inUse = true) : (t.device j).position = (s.device j).position :=
  (h.preserve (p := fun u => (k = .sequencer ∨ (u.device j).inUse = true) ∧
      (u.device j).position = (s.device j).position)
    (fun he ⟨hj, hu⟩ => ⟨hj.imp_right he.inUse, (he.position_eq hk hj).trans hu⟩) ⟨hj, rfl⟩).2

theorem Accepted.position_eq {k : Scope} (hk : k ≠ .move) {s t : State} {j : Nat} (h : Accepted k s t)
    (hj : (s.device j).inUse = true) : (t.device j).position = (s.device j).position := by
  cases h with
  | ends h | starts h => exact (h.position_eq hk (.inr hj) :)
  | block => exact s.device_setRunning_congr _ _ Device.position j

theorem Sequenced.position_eq {s t : State} (h : Sequenced s t) (j : Nat) :
    (t.device j).position = (s.device j).position := by
  cases h with
  | goes h => exact (h.position_eq (by simp) (.inl rfl) :)
  | pushes | ends => rfl
  | drains => exact s.device_setRunning_congr _ _ Device.position j

/-- The events of the burst engines and the pulse generators leave the device file (70_reset_and_hazards.md R313). -/
theorem beatStep_device {c : Nat} {s t : State} (h : beatStep c s = some t) (j : Nat) : t.device j = s.device j := by
  obtain ⟨-, -, rfl⟩ := (beatStep_some_iff c s t).1 h
  split <;> rfl

theorem pulseStep_device {p : Nat} {s t : State} (h : pulseStep p s = some t) (j : Nat) :
    t.device j = s.device j := by
  obtain ⟨w, rest, -, rfl⟩ := (pulseStep_some_iff p s t).1 h
  rfl

/-- Settles O20: only the edits of SET_POS and of the moves write a position, and no event writes the device file. -/
theorem positionIsBookkeeping : Obligations.PositionIsBookkeeping := by
  refine ⟨fun s t i j h hj hset hto hmulti => ?_, fun s t j h => (sequencerStep_cases h).2.position_eq j,
    fun s t c j h => by rw [beatStep_device h], fun s t p j h => by rw [pulseStep_device h]⟩
  refine (exec_cases h).position_eq (fun hk => ?_) hj
  cases i with
  | setPos | moveTo | moveMulti => simp_all
  | _ => cases hk

end Sys2Proof.Machine

/-! # When `running` falls -/

namespace Sys2Proof.Machine

open Sys2Proof.Safety

/-- No edit takes `running` from a claimed device (10_state.md R31). -/
theorem Edit.running {k : Scope} {s t : State} {j : Nat} (h : Edit k s t)
    (hj : (s.device j).inUse = true ∧ (s.device j).running = true) :
    (t.device j).inUse = true ∧ (t.device j).running = true := by
  refine ⟨h.inUse hj.1, ?_⟩
  cases h with
  | outside h => rw [State.device_eq_of_bare h, hj.2]
  | write _ hrun => exact (State.device_setDevice_congr Device.running hrun j).trans hj.2
  | raise => exact hj.2
  | @arm i _ cb =>
    obtain ⟨hd, -⟩ | hd := s.device_setDevice i { s.device i with callback := cb, running := true } j
    · exact congrArg Device.running hd
    · exact (congrArg Device.running hd).trans hj.2
  | claim _ _ hu => rw [State.device_claim hu hj.1, hj.2]

theorem Edits.running {k : Scope} {s t : State} {j : Nat} (h : Edits k s t)
    (hj : (s.device j).inUse = true ∧ (s.device j).running = true) : (t.device j).running = true :=
  (h.preserve (p := fun u => (u.device j).inUse = true ∧ (u.device j).running = true) Edit.running hj).2

/-- `running` raised on one slot falls on none. -/
theorem State.running_of_set {s : State} {i j : Nat} (hj : (s.device j).running = true) :
    ((s.modDevice i fun d => { d with running := true }).device j).running = true := by
  obtain ⟨hd, -⟩ | hd := s.device_setDevice i { s.device i with running := true } j
  · exact congrArg Device.running hd
  · exact (congrArg Device.running hd).trans hj

theorem Turn.running_falls {a : Agent} {s t : State} {j : Nat} (h : Turn a s t) (hu : (s.device j).inUse = true)
    (hr : (s.device j).running = true) (ht : (t.device j).running = false) :
    a = .dispatcher ∨ a = .platformReset ∨ (a = .sequencer ∧ ∃ r, s.seq = .blockDrain j r) := by
  have hstays : (t.device j).running ≠ true := by simp [ht]
  cases h with
  | accept _ h =>
    cases h with
    | ends h | starts h => exact absurd (h.running ⟨hu, hr⟩) hstays
    | block => exact absurd (State.running_of_set hr) hstays
  | sequence _ h =>
    cases h with
    | goes h => exact absurd (h.running ⟨hu, hr⟩) hstays
    | pushes | ends => exact absurd hr hstays
    | @drains i r hq =>
      obtain ⟨-, rfl⟩ | hd := s.device_setDevice i { s.device i with running := false } j
      · exact .inr (.inr ⟨rfl, r, hq⟩)
      · exact absurd ((congrArg Device.running hd).trans hr) hstays
  | beat h => exact absurd (beatStep_device h j ▸ hr) hstays
  | pulse h => exact absurd (pulseStep_device h j ▸ hr) hstays
  | dispatch => exact .inl rfl
  | reset => exact .inr (.inl rfl)

/-! ## What the ramp callback leaves alone -/

/-- `t` is `s` but for the record of slot `i`, the fault word and the counter of the free values. -/
def SlotOnly (i : Nat) (s t : State) : Prop :=
  ∃ d f n, t = { s.setDevice i d with fault := f, freeIx := n }

namespace SlotOnly

theorem refl (i : Nat) (s : State) : SlotOnly i s s := ⟨s.device i, s.fault, s.freeIx, by simp⟩

theorem trans {i : Nat} {s t u : State} (h : SlotOnly i s t) (h' : SlotOnly i t u) : SlotOnly i s u := by
  obtain ⟨d, f, n, rfl⟩ := h
  obtain ⟨d', f', n', rfl⟩ := h'
  exact ⟨d', f', n', by simp [State.setDevice]⟩

theorem modDevice (s : State) (i : Nat) (f : Device → Device) : SlotOnly i s (s.modDevice i f) :=
  ⟨f (s.device i), s.fault, s.freeIx, rfl⟩

theorem raiseFault (i : Nat) (s : State) (f : Word) : SlotOnly i s (s.raiseFault f) :=
  ⟨s.device i, s.fault ||| f, s.freeIx, by simp [State.raiseFault]⟩

theorem setDelay (s : State) (i v : Nat) : SlotOnly i s (s.setDelay i v) := by
  obtain ⟨w, n, -, -, h⟩ := setDelay_cases s i v
  exact ⟨_, s.fault, n, h⟩

theorem push (s : State) (i : Nat) (v : Word) : SlotOnly i s (s.push i v) := by
  obtain ⟨-, h⟩ | ⟨-, h⟩ := push_cases s i v
  · exact h ▸ raiseFault ..
  · exact h ▸ modDevice ..

theorem countCoast (s : State) (i : Nat) : SlotOnly i s (s.countCoast i) := by
  unfold State.countCoast
  split
  · exact ⟨_, s.fault, s.freeIx + 1, rfl⟩
  · exact modDevice ..

theorem accelDown (i : Nat) (s : State) : SlotOnly i s (accelDown i s) := by
  unfold Machine.accelDown
  split
  · have hp : SlotOnly i s (s.pop i).2 := modDevice s i fun d => { d with stack := d.stack.dropLast }
    split
    next r t h =>
      rw [h] at hp
      exact hp.trans (setDelay t i _)
    next => exact raiseFault ..
  · exact modDevice ..

theorem accelUp (i : Nat) (s : State) : SlotOnly i s (accelUp i s) := by
  unfold Machine.accelUp
  split
  · exact raiseFault ..
  · dsimp only
    split
    · exact (countCoast s i).trans (setDelay ..)
    · exact (push s i _).trans (setDelay ..)

/-- The ramp callback writes its own slot, the fault word and the counter (44_accel_controller.md R216, R217). -/
theorem accelCallback (i : Nat) (s : State) : SlotOnly i s (accelCallback i s) := by
  unfold Machine.accelCallback
  dsimp only
  split
  · exact refl i s
  · split
    · exact refl i s
    · exact accelDown i s
    · exact accelUp i s

theorem device_ne {i j : Nat} {s t : State} (h : SlotOnly i s t) (hij : i ≠ j) : t.device j = s.device j := by
  obtain ⟨d, f, n, rfl⟩ := h
  exact State.device_setDevice_ne (s := s) hij

theorem handlers {i : Nat} {s t : State} (h : SlotOnly i s t) : t.handlers = s.handlers := by
  obtain ⟨d, f, n, rfl⟩ := h
  rfl

end SlotOnly

/-! ## Re-arming in every handler -/

/-- MOVE_ASYNC on a running device changes nothing (43_step_engine.md R186). -/
theorem moveAsyncCmd_of_running {dev : Byte} {s : State} (h : (s.device dev.toNat).running = true) (steps : Word)
    (cb : Callback) : (moveAsyncCmd dev steps cb s).1 = s := by
  unfold moveAsyncCmd withHandle
  split
  · dsimp only
    split
    next t ht =>
      obtain ⟨-, hr, -, -⟩ := (startBurst_ok_iff ..).1 ht
      rw [h] at hr
      cases hr
    next => rfl
  · rfl

/-- MOVE_ASYNC on an idle configured device arms its burst (R186). -/
theorem moveAsyncCmd_of_idle {dev : Byte} {steps : Word} {s : State} (hv : s.validHandle dev = true)
    (hc : (s.device dev.toNat).configured = true) (hr : (s.device dev.toNat).running = false) (hn : steps ≠ 0#32)
    (cb : Callback) : (moveAsyncCmd dev steps cb s).1 = s.armed dev.toNat steps.toNat cb := by
  have hok : s.startBurst dev.toNat steps.toNat cb = .ok (s.armed dev.toNat steps.toNat cb) :=
    (startBurst_ok_iff ..).2 ⟨hc, hr, by simpa [BitVec.toNat_eq] using hn, rfl⟩
  simp [moveAsyncCmd, withHandle, hv, hok]

/-- The state in which the oracle has been called and its next answer taken (60_exceptions.md R279). -/
def State.called (s : State) (tag : Byte) (i : Nat) : State :=
  { s with handlerLog := s.handlerLog ++ [.call tag i], handlers := s.handlers.tail }

/-- A handler whose answer is one command runs that command. -/
theorem runHandler_single {tag : Byte} {i : Nat} {s : State} {c : Instr} {rest : List (List Instr)}
    (h : s.handlers = [c] :: rest) : runHandler tag i s = handlerStep (s.called tag i) c := by
  simp [runHandler, State.called, h]

theorem handlerStep_device (s : State) (c : Instr) (j : Nat) :
    (handlerStep s c).device j = (handlerCommand c s).1.device j := rfl

theorem handlerStep_handlers (s : State) (c : Instr) : (handlerStep s c).handlers = (handlerCommand c s).1.handlers :=
  rfl

theorem State.armed_device {s : State} {i : Nat} (hi : i < s.dev.length) (n : Nat) (cb : Callback) :
    (s.armed i n cb).device i = { s.device i with callback := cb, running := true } :=
  State.device_setDevice_self hi

/-- Device `h` runs with the user callback it has, and at least `n` answers are left, each of which arms it again. -/
structure Rearming (h tag : Byte) (steps : Word) (n : Nat) (s : State) : Prop where
  valid : s.validHandle h = true
  configured : (s.device h.toNat).configured = true
  running : (s.device h.toNat).running = true
  callback : (s.device h.toNat).callback = .user tag
  left : n ≤ s.handlers.length
  answers : ∀ answer ∈ s.handlers, answer = [.moveAsyncUser h tag steps]

/-- Where the device is as it was and at most one answer is used, the rest of the answers stand ready. -/
theorem Rearming.next {h tag : Byte} {steps : Word} {n : Nat} {s t : State} (hs : Rearming h tag steps (n + 1) s)
    (hcfg : t.cfg = s.cfg) (hd : t.device h.toNat = s.device h.toNat)
    (hh : t.handlers = s.handlers ∨ t.handlers = s.handlers.tail) : Rearming h tag steps n t := by
  have hleft := hs.left
  refine ⟨by rw [State.validHandle, hcfg, hd]; exact hs.valid, hd ▸ hs.configured, hd ▸ hs.running,
    hd ▸ hs.callback, ?_, ?_⟩
  · obtain hh | hh := hh <;> rw [hh]
    · omega
    · rw [List.length_tail]
      omega
  · obtain hh | hh := hh <;> rw [hh]
    · exact hs.answers
    · exact fun a ha => hs.answers a (List.mem_of_mem_tail ha)

/-- The next answer, where one is left. -/
theorem Rearming.handlers_eq {h tag : Byte} {steps : Word} {n : Nat} {s : State}
    (hs : Rearming h tag steps (n + 1) s) : s.handlers = [.moveAsyncUser h tag steps] :: s.handlers.tail := by
  have hleft := hs.left
  cases hh : s.handlers with
  | nil => simp [hh] at hleft
  | cons a rest => rw [hs.answers a (by simp [hh]), List.tail_cons]

/-- A record written with the callback and `running` it has is the record. -/
theorem Device.with_callback_running {d : Device} {cb : Callback} (hc : d.callback = cb) (hr : d.running = true) :
    { d with callback := cb, running := true } = d := by
  subst hc
  cases d
  cases hr
  rfl

/-- The completion of the device itself: `running` falls, and its handler arms it again (60_exceptions.md R277). -/
theorem Rearming.complete_self {h tag : Byte} {steps : Word} {n : Nat} {s : State}
    (hs : Rearming h tag steps (n + 1) s) (hsteps : steps ≠ 0#32) :
    (runCallback h.toNat (s.completeDevice h.toNat)).device h.toNat = s.device h.toNat ∧
      (runCallback h.toNat (s.completeDevice h.toNat)).handlers = s.handlers.tail := by
  have hi : h.toNat < s.dev.length := State.lt_of_inUse (inUse_of_validHandle hs.valid)
  have hd : (s.completeDevice h.toNat).device h.toNat = { s.device h.toNat with running := false } :=
    State.device_modDevice_self hi
  have hcall : runCallback h.toNat (s.completeDevice h.toNat) = runHandler tag h.toNat (s.completeDevice h.toNat) := by
    simp only [runCallback, hd, hs.callback]
  set u := (s.completeDevice h.toNat).called tag h.toNat
  have hdu : u.device h.toNat = { s.device h.toNat with running := false } := hd
  have hv : u.validHandle h = true := by
    rw [State.validHandle, hdu]
    exact hs.valid
  have harm := moveAsyncCmd_of_idle hv (by rw [hdu]; exact hs.configured) (by rw [hdu]) hsteps (.user tag)
  rw [hcall, runHandler_single (s := s.completeDevice h.toNat) hs.handlers_eq, handlerStep_device,
    handlerStep_handlers, handlerCommand, harm, State.armed_device (by simpa [u, State.called] using hi), hdu]
  exact ⟨Device.with_callback_running hs.callback hs.running, rfl⟩

/-- The completion of another device: the ramp callback writes its own slot, and a handler finds device `h` running. -/
theorem Rearming.complete_other {h tag : Byte} {steps : Word} {n i : Nat} {s : State}
    (hs : Rearming h tag steps (n + 1) s) (hi : i ≠ h.toNat) :
    (runCallback i (s.completeDevice i)).device h.toNat = s.device h.toNat ∧
      ((runCallback i (s.completeDevice i)).handlers = s.handlers ∨
        (runCallback i (s.completeDevice i)).handlers = s.handlers.tail) := by
  have hd : (s.completeDevice i).device h.toNat = s.device h.toNat := State.device_modDevice_ne hi
  unfold runCallback
  split
  next => exact ⟨hd, .inl rfl⟩
  next =>
    have honly := SlotOnly.accelCallback i (s.completeDevice i)
    exact ⟨(honly.device_ne hi).trans hd, .inl honly.handlers⟩
  next tag' _ =>
    have hr : ((s.completeDevice i).device h.toNat).running = true := hd ▸ hs.running
    rw [runHandler_single (s := s.completeDevice i) hs.handlers_eq, handlerStep_device, handlerStep_handlers,
      handlerCommand, moveAsyncCmd_of_running (s := (s.completeDevice i).called tag' i) hr]
    exact ⟨hd, .inr rfl⟩

/-- Each completed channel leaves the device re-armed. -/
theorem Rearming.completeChannel {h tag : Byte} {steps : Word} {n : Nat} {s : State}
    (hs : Rearming h tag steps (n + 1) s) (hsteps : steps ≠ 0#32) (c : Nat) :
    Rearming h tag steps n (completeChannel s c) := by
  have hcfg : (Machine.completeChannel s c).cfg = s.cfg := State.cfg_eq_of_shape (completeChannel_shape s c)
  unfold Machine.completeChannel at hcfg ⊢
  cases hslot : s.slotOf c with
  | none => exact hs.next rfl rfl (.inl rfl)
  | some i =>
    rw [hslot] at hcfg
    by_cases hi : i = h.toNat
    · subst hi
      obtain ⟨hd, hh⟩ := hs.complete_self hsteps
      exact hs.next hcfg hd (.inr hh)
    · obtain ⟨hd, hh⟩ := hs.complete_other hi
      exact hs.next hcfg hd hh

theorem Rearming.dispatch {h tag : Byte} {steps : Word} (hsteps : steps ≠ 0#32) (l : List Nat) {s : State}
    (hs : Rearming h tag steps l.length s) : Rearming h tag steps 0 (l.foldl Machine.completeChannel s) := by
  induction l generalizing s with
  | nil => exact hs
  | cons c l ih => exact ih (hs.completeChannel hsteps c)

theorem channelsIn_length_le (snap : Word) (nCC : Nat) : (channelsIn snap nCC).length ≤ nCC :=
  (List.length_filter_le ..).trans_eq List.length_range

/-- Settles O19: of the turns that can end a transfer only a dispatch, a reset and the drain of the slot's own MOVE_BLOCK
take its `running`; and every completed channel of a re-arming dispatch leaves the device as it was. -/
theorem runningFallsOnlyByDispatchOrDrain : Obligations.RunningFallsOnlyByDispatchOrDrain := by
  refine ⟨fun s t i h hu hr ht => ?_, fun s t h tag steps _ ht hv hc hr hcb hsteps hleft hanswers => ?_⟩
  · obtain ⟨u, hbare, hturn⟩ := step_turn h
    have hd := State.device_eq_of_bare hbare i
    have hseq : u.seq = s.seq := State.eq_of_bare hbare _
    rw [← hd] at hu hr
    obtain rfl | ⟨a, ha, hturn⟩ := hturn
    · simp [hr] at ht
    · rw [ha, ← hseq]
      simpa using hturn.running_falls hu hr ht
  · have hstill : t.still = s.still := dispatchStep_still ht
    obtain ⟨-, rfl⟩ := (dispatchStep_some_iff s t).1 ht
    have hs : Rearming h tag steps (channelsIn s.pending s.cfg.nCC).length
        { s with irqFlags := s.irqFlags &&& ~~~s.pending } :=
      ⟨(validHandle_iff s h).2 hv, hc, hr, hcb, (channelsIn_length_le ..).trans hleft, hanswers⟩
    have hend := hs.dispatch hsteps
    exact ⟨hend.running, hend.callback, (State.still_inj.1 hstill).2.1⟩

end Sys2Proof.Machine

/-! # The invariant of the machine

`Ledger` is the part of the invariant whose clauses need each other: the registry, the running discipline, and the claims
of the sequencer. What moves it is the transfer of one slot (`TransferOf`), ALLOC's claim, and the reset. -/

namespace Sys2Proof.Machine

open Sys2Proof.Safety

/-- The clauses of the invariant about claims, channels and transfers, on a legal configuration. -/
structure Ledger (s : State) : Prop where
  cfgOk : s.cfg.ok = true
  sized : Sized s
  sequencer : SeqLegal s
  registry : RegistryLegal s
  running : RunningDiscipline s

/-! ## Reading the ledger -/

theorem State.lt_of_slotOf {s : State} {c i : Nat} (h : s.slotOf c = some i) : c < s.chanMap.length := by
  by_contra hn
  simp [State.slotOf, List.getD_eq_getElem?_getD, List.getElem?_eq_none (Nat.le_of_not_lt hn)] at h

namespace Ledger

variable {s : State} {i c : Nat}

theorem slot_lt (hs : Ledger s) (hu : (s.device i).inUse = true) : i < s.cfg.nDev := by
  obtain ⟨hdev, -⟩ := hs.sized
  exact hdev ▸ State.lt_of_inUse hu

/-- A claimed slot's completion channel is mapped to it. -/
theorem slotOf_ccChan (hs : Ledger s) (hu : (s.device i).inUse = true) : s.slotOf (s.device i).ccChan = some i :=
  (hs.registry.slots i (hs.slot_lt hu) hu).1

theorem exact (hs : Ledger s) (hu : (s.device i).inUse = true) : RunningExact s i := hs.running i (hs.slot_lt hu) hu

theorem lt_32_of_slotOf (hs : Ledger s) (h : s.slotOf c = some i) : c < 32 := by
  obtain ⟨-, hmap, -⟩ := hs.sized
  have h1 := State.lt_of_slotOf h
  have h2 := Cfg.nCC_le hs.cfgOk
  omega

/-- A mapped channel is held by the claimed slot it is mapped to, as is its transfer state. -/
theorem of_slotOf (hs : Ledger s) (h : s.slotOf c = some i) :
    (s.device i).inUse = true ∧ (s.device i).ccChan = c ∧ (s.xferOf c).slot = i ∧ c ∉ s.ccFree := by
  obtain ⟨hmap, -⟩ := hs.registry.channels c (hs.lt_32_of_slotOf h)
  exact (hmap i h).2

/-- A flag is that of a mapped channel (40_registry.md R121). -/
theorem slotOf_of_flag (hs : Ledger s) (h : s.irqFlags.getLsbD c = true) : ∃ i, s.slotOf c = some i := by
  obtain ⟨-, -, hflag, -⟩ := hs.registry.channels c (BitVec.lt_of_getLsbD h)
  exact Option.isSome_iff_exists.1 (hflag h)

/-- A flag's channel is enabled. -/
theorem enabled_of_flag (hs : Ledger s) (h : s.irqFlags.getLsbD c = true) : s.irqEnable.getLsbD c = true := by
  obtain ⟨-, hen, hflag, -⟩ := hs.registry.channels c (BitVec.lt_of_getLsbD h)
  rw [hen, hflag h]

/-- An armed channel is mapped to the slot of its transfer. -/
theorem slotOf_of_active (hs : Ledger s) (h : (s.xferOf c).active = true) : s.slotOf c = some (s.xferOf c).slot := by
  obtain ⟨-, -, hxfer, -⟩ := hs.sized
  have h1 := State.lt_of_active h
  have h2 := Cfg.nCC_le hs.cfgOk
  obtain ⟨hmap, -, -, hactive⟩ := hs.registry.channels c (by omega)
  obtain ⟨i, hi⟩ := Option.isSome_iff_exists.1 (hactive h)
  obtain ⟨-, -, -, hslot, -⟩ := hmap i hi
  rw [hi, hslot]

/-- MOVE_BLOCK is in progress on a claimed slot only. -/
theorem inUse_of_blockOn (hs : Ledger s) (h : blockOn s i = true) : (s.device i).inUse = true :=
  (seqLegal_iff s).1 hs.sequencer i (Seq.mem_slots_of_blocks ((blockOn_iff s i).1 h))

end Ledger

/-! ## The transfer of one slot -/

/-- All that the registry and the running discipline speak of is in `t` as in `s`, but for the transfer of slot `i`: its
`running`, the count and flag of its channel, and MOVE_BLOCK on it. -/
structure TransferOf (i : Nat) (s t : State) : Prop where
  shape : t.shape = s.shape
  chanMap : t.chanMap = s.chanMap
  ccFree : t.ccFree = s.ccFree
  pgFree : t.pgFree = s.pgFree
  irqEnable : t.irqEnable = s.irqEnable
  held : ∀ j, (t.device j).held = (s.device j).held
  running : ∀ j, j ≠ i → (t.device j).running = (s.device j).running
  slot : ∀ c, (t.xferOf c).slot = (s.xferOf c).slot
  xfer : ∀ c, s.slotOf c ≠ some i → t.xferOf c = s.xferOf c
  flag : ∀ c, s.slotOf c ≠ some i → t.irqFlags.getLsbD c = s.irqFlags.getLsbD c
  block : ∀ j, j ≠ i → blockOn t j = blockOn s j

/-- The running discipline of a slot rests on its channel, its `running`, the channel's transfer and flag, and
MOVE_BLOCK. -/
theorem runningExact_congr {s t : State} {j : Nat} (hs : RunningExact s j)
    (hc : (t.device j).ccChan = (s.device j).ccChan) (hr : (t.device j).running = (s.device j).running)
    (hx : t.xferOf (s.device j).ccChan = s.xferOf (s.device j).ccChan)
    (hf : t.irqFlags.getLsbD (s.device j).ccChan = s.irqFlags.getLsbD (s.device j).ccChan)
    (hb : blockOn t j = blockOn s j) : RunningExact t j := by
  simpa only [RunningExact, hc, hr, hx, hf, hb] using hs

namespace TransferOf

variable {i : Nat} {s t u : State}

theorem slotOf_eq (h : TransferOf i s t) (c : Nat) : t.slotOf c = s.slotOf c := by
  rw [State.slotOf, State.slotOf, h.chanMap]

theorem trans (h : TransferOf i s t) (h' : TransferOf i t u) : TransferOf i s u where
  shape := h'.shape.trans h.shape
  chanMap := h'.chanMap.trans h.chanMap
  ccFree := h'.ccFree.trans h.ccFree
  pgFree := h'.pgFree.trans h.pgFree
  irqEnable := h'.irqEnable.trans h.irqEnable
  held j := (h'.held j).trans (h.held j)
  running j hj := (h'.running j hj).trans (h.running j hj)
  slot c := (h'.slot c).trans (h.slot c)
  xfer c hc := (h'.xfer c (by rwa [h.slotOf_eq])).trans (h.xfer c hc)
  flag c hc := (h'.flag c (by rwa [h.slotOf_eq])).trans (h.flag c hc)
  block j hj := (h'.block j hj).trans (h.block j hj)

theorem registry (h : TransferOf i s t) (hs : RegistryLegal s) : RegistryLegal t := by
  have hcfg : t.cfg = s.cfg := State.cfg_eq_of_shape h.shape
  have hslot := h.slotOf_eq
  have hu : ∀ j, (t.device j).inUse = (s.device j).inUse := fun j => (Device.held_inj.1 (h.held j)).1
  have hp : ∀ j, (t.device j).pgChan = (s.device j).pgChan := fun j => (Device.held_inj.1 (h.held j)).2.1
  have hc : ∀ j, (t.device j).ccChan = (s.device j).ccChan := fun j => (Device.held_inj.1 (h.held j)).2.2
  constructor
  case ccFreeSet => rw [hcfg, h.ccFree, hs.ccFreeSet]
  case pgFreeSet => rw [hcfg, h.pgFree, hs.pgFreeSet]
  case pgDistinct => simpa only [PgDistinct, hcfg, hu, hp] using hs.pgDistinct
  case slots => simpa only [SlotsLegal, SlotChannels, hcfg, hu, hp, hc, hslot, h.pgFree] using hs.slots
  case channels =>
    intro c hc32
    obtain ⟨hmap, hen, hflag, hactive⟩ := hs.channels c hc32
    refine ⟨by simpa only [hcfg, hu, hc, hslot, h.slot, h.ccFree] using hmap, by rw [h.irqEnable, hslot, hen],
      fun hf => ?_, fun ha => ?_⟩
    · by_cases hi : s.slotOf c = some i
      · simp [hslot, hi]
      · rw [hslot, hflag (h.flag c hi ▸ hf)]
    · by_cases hi : s.slotOf c = some i
      · simp [hslot, hi]
      · rw [hslot, hactive (h.xfer c hi ▸ ha)]

/-- The ledger after the transfer of one slot moved: what is to show is of that slot and of the sequencer. -/
theorem ledger (h : TransferOf i s t) (hs : Ledger s) (hseq : SeqLegal t)
    (hexact : (s.device i).inUse = true → RunningExact t i) : Ledger t := by
  have hcfg : t.cfg = s.cfg := State.cfg_eq_of_shape h.shape
  refine ⟨hcfg ▸ hs.cfgOk, ?_, hseq, h.registry hs.registry, fun j _ hu => ?_⟩
  · rw [State.sized_iff_shape, hcfg, h.shape, (State.sized_iff_shape s).1 hs.sized]
  · obtain ⟨hinUse, -, hcc⟩ := Device.held_inj.1 (h.held j)
    rw [hinUse] at hu
    by_cases hji : j = i
    · subst hji
      exact hexact hu
    · have hne : s.slotOf (s.device j).ccChan ≠ some i := by simpa [hs.slotOf_ccChan hu] using hji
      exact runningExact_congr (hs.exact hu) hcc (h.running j hji) (h.xfer _ hne) (h.flag _ hne) (h.block j hji)

theorem seqLegal (h : TransferOf i s t) (hs : Ledger s) (hseq : t.seq = s.seq) : SeqLegal t := by
  rw [seqLegal_iff, hseq]
  intro j hj
  rw [(Device.held_inj.1 (h.held j)).1]
  exact (seqLegal_iff s).1 hs.sequencer j hj

/-- A change of what the ledger does not speak of is no change of any transfer. -/
theorem of_same (i : Nat) (hshape : t.shape = s.shape)
    (hreg : (t.chanMap, t.ccFree, t.pgFree, t.irqEnable) = (s.chanMap, s.ccFree, s.pgFree, s.irqEnable))
    (hxfer : t.xfer = s.xfer) (hflags : t.irqFlags = s.irqFlags)
    (hdev : ∀ j, (t.device j).held = (s.device j).held ∧ (t.device j).running = (s.device j).running)
    (hblock : ∀ j, j ≠ i → blockOn t j = blockOn s j) : TransferOf i s t := by
  simp only [Prod.mk.injEq] at hreg
  obtain ⟨hmap, hcc, hpg, hen⟩ := hreg
  have hx : ∀ c, t.xferOf c = s.xferOf c := fun c => by rw [State.xferOf, State.xferOf, hxfer]
  exact ⟨hshape, hmap, hcc, hpg, hen, fun j => (hdev j).1, fun j _ => (hdev j).2, fun c => by rw [hx],
    fun c _ => hx c, fun c _ => by rw [hflags], hblock⟩

theorem modDevice (s : State) {f : Device → Device} (hheld : (f (s.device i)).held = (s.device i).held) :
    TransferOf i s (s.modDevice i f) where
  shape := s.modDevice_shape i f
  chanMap := rfl
  ccFree := rfl
  pgFree := rfl
  irqEnable := rfl
  held j := State.device_setDevice_congr Device.held hheld j
  running _ hj := by rw [State.device_modDevice_ne (Ne.symm hj)]
  slot _ := rfl
  xfer _ _ := rfl
  flag _ _ := rfl
  block _ _ := rfl

theorem setXfer {c : Nat} {x : Xfer} (hc : s.slotOf c = some i) (hx : x.slot = (s.xferOf c).slot) :
    TransferOf i s (s.setXfer c x) where
  shape := s.setXfer_shape c x
  chanMap := rfl
  ccFree := rfl
  pgFree := rfl
  irqEnable := rfl
  held _ := rfl
  running _ _ := rfl
  slot e := by
    by_cases he : c = e
    · subst he
      by_cases hlt : c < s.xfer.length
      · rw [State.xferOf_setXfer_self hlt, hx]
      · rw [State.setXfer, List.set_eq_of_length_le (Nat.le_of_not_lt hlt)]
    · rw [State.xferOf_setXfer_ne he]
  xfer e he := State.xferOf_setXfer_ne fun hce => he (hce ▸ hc)
  flag _ _ := rfl
  block _ _ := rfl

theorem setFlags {f : Word} (hf : ∀ c, s.slotOf c ≠ some i → f.getLsbD c = s.irqFlags.getLsbD c) :
    TransferOf i s { s with irqFlags := f } :=
  ⟨rfl, rfl, rfl, rfl, rfl, fun _ => rfl, fun _ _ => rfl, fun _ => rfl, fun _ _ => rfl, hf, fun _ _ => rfl⟩

theorem seat {q : Seq} {b : Bool} {r : Result}
    (h : ∀ j, j ≠ i → (q.blocks = some j ↔ s.seq.blocks = some j)) :
    TransferOf i s { s with seq := q, cmdBusy := b, result := r } :=
  of_same i rfl rfl rfl rfl (fun _ => ⟨rfl, rfl⟩) fun j hj => by
    rw [Bool.eq_iff_iff, blockOn_iff, blockOn_iff]
    exact h j hj

end TransferOf

/-- What the ledger does not speak of may change. -/
theorem Ledger.congr {s t : State} (hs : Ledger s) (hshape : t.shape = s.shape)
    (hreg : (t.chanMap, t.ccFree, t.pgFree, t.irqEnable) = (s.chanMap, s.ccFree, s.pgFree, s.irqEnable))
    (hxfer : t.xfer = s.xfer) (hflags : t.irqFlags = s.irqFlags)
    (hdev : ∀ j, (t.device j).held = (s.device j).held ∧ (t.device j).running = (s.device j).running)
    (hseq : t.seq = s.seq) : Ledger t := by
  have hblock : ∀ j, blockOn t j = blockOn s j := blockOn_congr (by rw [hseq])
  have h : TransferOf 0 s t := .of_same 0 hshape hreg hxfer hflags hdev fun j _ => hblock j
  refine h.ledger hs (h.seqLegal hs hseq) fun hu => runningExact_congr (hs.exact hu) (Device.held_inj.1 (h.held 0)).2.2
    (hdev 0).2 (by rw [State.xferOf, State.xferOf, hxfer]) (by rw [hflags]) (hblock 0)

theorem Ledger.of_bare {s t : State} (h : t.bare = s.bare) (hs : Ledger s) : Ledger t :=
  hs.congr (State.eq_of_bare h _)
    (State.eq_of_bare h fun u => (u.chanMap, u.ccFree, u.pgFree, u.irqEnable)) (State.eq_of_bare h _)
    (State.eq_of_bare h _) (fun j => by simp [State.device_eq_of_bare h j]) (State.eq_of_bare h _)

/-- The sequencer and the port take another state, on claimed slots and with MOVE_BLOCK where it was. -/
theorem Ledger.seat {s : State} {q : Seq} {b : Bool} {r : Result} (hs : Ledger s) (hb : q.blocks = s.seq.blocks)
    (hslots : ∀ i ∈ q.slots, (s.device i).inUse = true) : Ledger { s with seq := q, cmdBusy := b, result := r } := by
  have h : TransferOf 0 s { s with seq := q, cmdBusy := b, result := r } := .seat fun _ _ => by rw [hb]
  exact h.ledger hs ((seqLegal_iff _).2 hslots) fun hu =>
    runningExact_congr (hs.exact hu) rfl rfl rfl rfl (blockOn_congr hb 0)

end Sys2Proof.Machine

/-! ## The ledger over an edit -/

namespace Sys2Proof.Machine

open Sys2Proof.Safety

theorem getLsbD_bitAt (c e : Nat) : (bitAt c).getLsbD e = (decide (c < 32) && decide (c = e)) :=
  BitVec.getLsbD_twoPow c e

/-- Taking flag `c` leaves the other flags (20_memory.md R84). -/
theorem getLsbD_andNot_bitAt (f : Word) {c : Nat} (hc : c < 32) (e : Nat) :
    (f &&& ~~~bitAt c).getLsbD e = (f.getLsbD e && !decide (c = e)) := by
  rw [BitVec.getLsbD_and, BitVec.getLsbD_not, getLsbD_bitAt]
  by_cases he : e < 32
  · simp [he, hc]
  · simp [BitVec.getLsbD_of_ge f e (Nat.le_of_not_lt he)]

/-- The running discipline of a slot from the values it rests on. -/
theorem runningExact_of_values {t : State} {i c : Nat} {running active flag block : Bool}
    (hc : (t.device i).ccChan = c) (hr : (t.device i).running = running) (ha : (t.xferOf c).active = active)
    (hf : t.irqFlags.getLsbD c = flag) (hb : blockOn t i = block)
    (h : (running == (active || flag || block) && !(active && flag) && !(active && block) && !(flag && block)) = true) :
    RunningExact t i := by
  subst hc hr ha hf hb
  simp only [Bool.and_eq_true, beq_iff_eq, Bool.not_eq_true'] at h
  obtain ⟨⟨⟨hr, haf⟩, hab⟩, hfb⟩ := h
  exact ⟨by rw [hr, Bool.or_eq_true, Bool.or_eq_true, or_assoc], haf, hab, hfb⟩

/-- An idle claimed slot has no transfer of any kind (10_state.md R39 (c)). -/
theorem runningExact_of_idle {s : State} {i : Nat} (h : RunningExact s i) (hr : (s.device i).running = false) :
    (s.xferOf (s.device i).ccChan).active = false ∧ s.irqFlags.getLsbD (s.device i).ccChan = false ∧
      blockOn s i = false := by
  simpa [RunningExact, hr] using h.1

theorem Ledger.armed {s : State} {i : Nat} (hs : Ledger s) (hu : (s.device i).inUse = true)
    (hr : (s.device i).running = false) (n : Nat) (cb : Callback) : Ledger (s.armed i n cb) := by
  have hi : i < s.dev.length := State.lt_of_inUse hu
  have hslot := hs.slotOf_ccChan hu
  obtain ⟨-, -, hx, -⟩ := hs.of_slotOf hslot
  have hc : (s.device i).ccChan < s.xfer.length := by
    obtain ⟨-, hmap, hxfer, -⟩ := hs.sized
    rw [hxfer, ← hmap]
    exact State.lt_of_slotOf hslot
  have hwrite : TransferOf i s (s.modDevice i fun d => { d with callback := cb, running := true }) :=
    .modDevice s rfl
  have h : TransferOf i s (s.armed i n cb) := hwrite.trans (.setXfer hslot hx.symm)
  refine h.ledger hs (h.seqLegal hs rfl) fun _ => ?_
  obtain ⟨-, hflag, hblock⟩ := runningExact_of_idle (hs.exact hu) hr
  have hd := State.armed_device hi n cb
  exact runningExact_of_values (congrArg Device.ccChan hd) (congrArg Device.running hd)
    (congrArg Xfer.active (State.xferOf_setXfer_self hc)) hflag hblock rfl

/-- A free channel is one of the block's, mapped to no slot and not flagged (40_registry.md R121, R123). -/
theorem Ledger.of_free {s : State} {c : Nat} (hs : Ledger s) (hc : c ∈ s.ccFree) :
    c < s.cfg.nCC ∧ s.slotOf c = none ∧ s.irqFlags.getLsbD c = false := by
  have hset := hs.registry.ccFreeSet
  simp only [isChannelSet, Bool.and_eq_true, List.all_eq_true, decide_eq_true_eq] at hset
  have hnone : s.slotOf c = none := by
    rw [Option.eq_none_iff_forall_ne_some]
    intro i hi
    obtain ⟨-, -, -, hfree⟩ := hs.of_slotOf hi
    exact hfree hc
  refine ⟨hset.2 c hc, hnone, ?_⟩
  by_contra hf
  obtain ⟨i, hi⟩ := hs.slotOf_of_flag (by simpa using hf)
  simp [hnone] at hi

section Claim

variable {s : State} {i p c : Nat}

theorem State.claim_device_self (hi : i < s.dev.length) :
    (s.claim i p c).device i = Device.allocated s.cfg p c s.freeIx := State.device_setDevice_self hi

theorem State.claim_device_ne {j : Nat} (hij : i ≠ j) : (s.claim i p c).device j = s.device j :=
  State.device_setDevice_ne (s := s) hij

theorem State.claim_slotOf_self (hc : c < s.chanMap.length) : (s.claim i p c).slotOf c = some i := by
  simp [State.slotOf, State.claim, hc]

theorem State.claim_slotOf_ne {e : Nat} (he : c ≠ e) : (s.claim i p c).slotOf e = s.slotOf e := by
  simp [State.slotOf, State.claim, List.getD_eq_getElem?_getD, List.getElem?_set_ne he]

theorem State.claim_xferOf_self (hc : c < s.xfer.length) : (s.claim i p c).xferOf c = ⟨0#32, false, i⟩ :=
  State.xferOf_setXfer_self hc

theorem State.claim_xferOf_ne {e : Nat} (he : c ≠ e) : (s.claim i p c).xferOf e = s.xferOf e :=
  State.xferOf_setXfer_ne he

theorem State.claim_irqEnable (e : Nat) :
    (s.claim i p c).irqEnable.getLsbD e = (s.irqEnable.getLsbD e || (decide (c < 32) && decide (c = e))) := by
  simp [State.claim, getLsbD_bitAt]

end Claim

/-- What ALLOC's claim rests on: slot `i` is free, and so are both channels. -/
structure Claimable (s : State) (i p c : Nat) : Prop where
  slot_lt : i < s.cfg.nDev
  unused : (s.device i).inUse = false
  pg : p ∈ s.pgFree
  cc : c ∈ s.ccFree

namespace Claimable

variable {s : State} {i p c : Nat}

/-- The slots in use after the claim are the claimed one and those that were. -/
theorem eq_or_inUse (h : Claimable s i p c) (hs : Ledger s) {j : Nat}
    (hj : ((s.claim i p c).device j).inUse = true) :
    (j = i ∧ (s.claim i p c).device j = Device.allocated s.cfg p c s.freeIx) ∨
      (i ≠ j ∧ (s.claim i p c).device j = s.device j ∧ (s.device j).inUse = true) := by
  obtain ⟨hdev, -⟩ := hs.sized
  by_cases hij : i = j
  · exact .inl ⟨hij.symm, hij ▸ State.claim_device_self (hdev ▸ h.slot_lt)⟩
  · have hd : (s.claim i p c).device j = s.device j := State.claim_device_ne hij
    exact .inr ⟨hij, hd, hd ▸ hj⟩

theorem slotOf_self (h : Claimable s i p c) (hs : Ledger s) : (s.claim i p c).slotOf c = some i := by
  obtain ⟨-, hmap, -⟩ := hs.sized
  exact State.claim_slotOf_self (hmap ▸ (hs.of_free h.cc).1)

/-- The channel of a slot that was in use is not the claimed one. -/
theorem ccChan_ne (h : Claimable s i p c) (hs : Ledger s) {j : Nat} (hj : (s.device j).inUse = true) :
    c ≠ (s.device j).ccChan := by
  rintro rfl
  obtain ⟨-, hnone, -⟩ := hs.of_free h.cc
  rw [hs.slotOf_ccChan hj] at hnone
  cases hnone

theorem pg_lt (h : Claimable s i p c) (hs : Ledger s) : p < s.cfg.nPG := by
  have hset := hs.registry.pgFreeSet
  simp only [isChannelSet, Bool.and_eq_true, List.all_eq_true, decide_eq_true_eq] at hset
  exact hset.2 p h.pg

/-- The pulse-generator channel of a slot that was in use was not free. -/
theorem pgChan_ne (h : Claimable s i p c) (hs : Ledger s) {j : Nat} (hj : (s.device j).inUse = true) :
    (s.device j).pgChan ≠ p := by
  rintro rfl
  obtain ⟨-, -, hfree⟩ := hs.registry.slots j (hs.slot_lt hj) hj
  exact hfree h.pg

theorem pgDistinct (h : Claimable s i p c) (hs : Ledger s) : PgDistinct (s.claim i p c) := by
  intro a _ b _ ha hb hab
  obtain ⟨rfl, hda⟩ | ⟨-, hda, hua⟩ := h.eq_or_inUse hs ha
  · obtain ⟨rfl, -⟩ | ⟨-, hdb, hub⟩ := h.eq_or_inUse hs hb
    · rfl
    · exact absurd (by simpa [hda, hdb, Device.allocated] using hab.symm) (h.pgChan_ne hs hub)
  · obtain ⟨rfl, hdb⟩ | ⟨-, hdb, hub⟩ := h.eq_or_inUse hs hb
    · exact absurd (by simpa [hda, hdb, Device.allocated] using hab) (h.pgChan_ne hs hua)
    · exact hs.registry.pgDistinct a (hs.slot_lt hua) b (hs.slot_lt hub) hua hub (by simpa [hda, hdb] using hab)

theorem slotsLegal (h : Claimable s i p c) (hs : Ledger s) : SlotsLegal (s.claim i p c) := by
  intro j _ hj
  obtain ⟨rfl, hd⟩ | ⟨-, hd, hj⟩ := h.eq_or_inUse hs hj
  · rw [SlotChannels, hd]
    exact ⟨h.slotOf_self hs, h.pg_lt hs, by simp [State.claim, Device.allocated]⟩
  · obtain ⟨hslot, hlt, hfree⟩ := hs.registry.slots j (hs.slot_lt hj) hj
    rw [SlotChannels, hd, State.claim_slotOf_ne (h.ccChan_ne hs hj)]
    exact ⟨hslot, hlt, fun hmem => hfree (List.mem_of_mem_filter hmem)⟩

theorem channelLegal_self (h : Claimable s i p c) (hs : Ledger s) : ChannelLegal (s.claim i p c) c := by
  obtain ⟨hdev, -, hxfer, -⟩ := hs.sized
  obtain ⟨hc, -, -⟩ := hs.of_free h.cc
  have hc32 : c < 32 := hc.trans_le (Cfg.nCC_le hs.cfgOk)
  have hd : (s.claim i p c).device i = _ := State.claim_device_self (hdev ▸ h.slot_lt)
  rw [ChannelLegal, h.slotOf_self hs, State.claim_xferOf_self (hxfer ▸ hc), State.claim_irqEnable]
  refine ⟨fun j hj => ?_, by simp [hc32], fun _ => rfl, fun _ => rfl⟩
  obtain rfl : i = j := by simpa using hj
  exact ⟨h.slot_lt, by rw [hd]; rfl, by rw [hd]; rfl, rfl, by simp [State.claim]⟩

theorem channelLegal_ne (h : Claimable s i p c) {e : Nat} (he : c ≠ e)
    (hl : ChannelLegal s e) : ChannelLegal (s.claim i p c) e := by
  obtain ⟨hmap, hen, hflag, hactive⟩ := hl
  rw [ChannelLegal, State.claim_slotOf_ne he, State.claim_xferOf_ne he, State.claim_irqEnable]
  refine ⟨fun j hj => ?_, by simpa [he] using hen, hflag, hactive⟩
  obtain ⟨hlt, hu, hcc, hslot, hfree⟩ := hmap j hj
  have hij : i ≠ j := by
    rintro rfl
    rw [h.unused] at hu
    cases hu
  rw [State.claim_device_ne hij]
  exact ⟨hlt, hu, hcc, hslot, fun hmem => hfree (List.mem_of_mem_filter hmem)⟩

theorem running (h : Claimable s i p c) (hs : Ledger s) : RunningDiscipline (s.claim i p c) := by
  intro j _ hj
  obtain ⟨-, -, hxfer, -⟩ := hs.sized
  obtain ⟨hc, -, hflag⟩ := hs.of_free h.cc
  obtain ⟨rfl, hd⟩ | ⟨-, hd, hj⟩ := h.eq_or_inUse hs hj
  · have hblock : blockOn (s.claim j p c) j = false := by
      by_contra hb
      have hu := hs.inUse_of_blockOn (Bool.not_eq_false _ |>.mp hb : blockOn s j = true)
      rw [h.unused] at hu
      cases hu
    exact runningExact_of_values (congrArg Device.ccChan hd) (congrArg Device.running hd)
      (congrArg Xfer.active (State.claim_xferOf_self (hxfer ▸ hc))) hflag hblock rfl
  · exact runningExact_congr (hs.exact hj) (by rw [hd]) (by rw [hd]) (State.claim_xferOf_ne (h.ccChan_ne hs hj)) rfl rfl

theorem ledger (h : Claimable s i p c) (hs : Ledger s) : Ledger (s.claim i p c) where
  cfgOk := hs.cfgOk
  sized := (State.sized_iff_shape _).2 ((s.claim_shape i p c).trans ((State.sized_iff_shape s).1 hs.sized))
  sequencer := (seqLegal_iff _).2 fun j hj => by
    have hu := (seqLegal_iff s).1 hs.sequencer j hj
    rwa [State.device_claim h.unused hu]
  registry :=
    { ccFreeSet := isChannelSet_filter hs.registry.ccFreeSet
      pgFreeSet := isChannelSet_filter hs.registry.pgFreeSet
      pgDistinct := h.pgDistinct hs
      slots := h.slotsLegal hs
      channels := fun e he => by
        by_cases hce : c = e
        · exact hce ▸ h.channelLegal_self hs
        · exact h.channelLegal_ne hce (hs.registry.channels e he) }
  running := h.running hs

end Claimable

theorem Edit.ledger {k : Scope} {s t : State} (h : Edit k s t) (hs : Ledger s) : Ledger t := by
  cases h with
  | outside h => exact hs.of_bare h
  | @write i d hheld hrun =>
    exact hs.congr (s.setDevice_shape i d) rfl rfl rfl (fun j =>
      ⟨State.device_setDevice_congr Device.held hheld j, State.device_setDevice_congr Device.running hrun j⟩) rfl
  | raise => exact hs.congr rfl rfl rfl rfl (fun _ => ⟨rfl, rfl⟩) rfl
  | arm hu hr => exact hs.armed (hu hs.sequencer) hr _ _
  | claim _ hi hu hp hc => exact Claimable.ledger ⟨hi, hu, hp, hc⟩ hs

theorem Edits.ledger {k : Scope} {s t : State} (h : Edits k s t) (hs : Ledger s) : Ledger t :=
  h.preserve Edit.ledger hs

/-! ## The ledger over a dispatch -/

/-- No edit reads or writes a completion flag, so that it is an edit under any flags. -/
theorem Edit.withFlags {k : Scope} {s t : State} (h : Edit k s t) (f : Word) :
    Edit k { s with irqFlags := f } { t with irqFlags := f } := by
  cases h with
  | outside h => exact .outside (congrArg (fun u => { u with irqFlags := f }) h)
  | write hheld hrun hpos hlegal => exact .write (s := { s with irqFlags := f }) hheld hrun hpos hlegal
  | raise hf => exact .raise (s := { s with irqFlags := f }) hf
  | arm hu hr => exact .arm (s := { s with irqFlags := f }) hu hr
  | claim hk hi hu hp hc => exact .claim (s := { s with irqFlags := f }) hk hi hu hp hc

theorem Edits.withFlags {k : Scope} {s t : State} (h : Edits k s t) (f : Word) :
    Edits k { s with irqFlags := f } { t with irqFlags := f } :=
  h.lift _ fun _ _ he => he.withFlags f

/-- A flagged transfer completed: the flag is taken and `running` falls (60_exceptions.md R275, R277). -/
theorem Ledger.complete {s : State} {c i : Nat} (hs : Ledger s) (hc : s.slotOf c = some i)
    (hf : s.irqFlags.getLsbD c = true) :
    Ledger { s.completeDevice i with irqFlags := s.irqFlags &&& ~~~bitAt c } := by
  obtain ⟨hu, hcc, -, -⟩ := hs.of_slotOf hc
  have hbit := getLsbD_andNot_bitAt s.irqFlags (hs.lt_32_of_slotOf hc)
  have hfall : TransferOf i s (s.completeDevice i) := .modDevice s rfl
  have h : TransferOf i s { s.completeDevice i with irqFlags := s.irqFlags &&& ~~~bitAt c } :=
    hfall.trans (.setFlags fun e he => by
      have hne : c ≠ e := fun hce => he (hce ▸ hc)
      simpa [hne] using hbit e)
  refine h.ledger hs (h.seqLegal hs rfl) fun _ => ?_
  obtain ⟨-, haf, -, hfb⟩ := hs.exact hu
  simp only [hcc, hf, Bool.and_true, Bool.true_and] at haf hfb
  have hd : (s.completeDevice i).device i = { s.device i with running := false } :=
    State.device_modDevice_self (State.lt_of_inUse hu)
  have hflag : (s.irqFlags &&& ~~~bitAt c).getLsbD c = false := by simp [hbit]
  exact runningExact_of_values ((congrArg Device.ccChan hd).trans hcc) (congrArg Device.running hd) haf hflag hfb rfl

/-- Channels whose completion a dispatch still owes: they alone count as flagged, though the flags are taken
(60_exceptions.md R275). -/
def Owed (l : List Nat) (s : State) : Prop :=
  s.irqFlags = 0#32 ∧ ∃ f : Word, (∀ c, f.getLsbD c = true ↔ c ∈ l) ∧ Ledger { s with irqFlags := f }

theorem Owed.completeChannel {c : Nat} {l : List Nat} {s : State} (hnd : (c :: l).Nodup) (hs : Owed (c :: l) s) :
    Owed l (completeChannel s c) := by
  obtain ⟨hzero, f, hf, hledger⟩ := hs
  have hc : f.getLsbD c = true := (hf c).2 (by simp)
  obtain ⟨i, hi⟩ := hledger.slotOf_of_flag hc
  obtain ⟨hnone, -⟩ | ⟨j, hj, hedits⟩ := completeChannel_cases s c
  · cases hnone.symm.trans hi
  obtain rfl : i = j := Option.some.inj (hi.symm.trans hj)
  refine ⟨hedits.irqFlags_eq.trans hzero, f &&& ~~~bitAt c, fun e => ?_, ?_⟩
  · have hne : e ∈ l → c ≠ e := fun he hce => (List.nodup_cons.1 hnd).1 (hce ▸ he)
    rw [getLsbD_andNot_bitAt f (BitVec.lt_of_getLsbD hc), Bool.and_eq_true, hf e, List.mem_cons]
    simp only [Bool.not_eq_true', decide_eq_false_iff_not]
    exact ⟨fun ⟨he, hce⟩ => he.resolve_left (Ne.symm hce), fun he => ⟨.inr he, hne he⟩⟩
  · exact (hedits.withFlags _).ledger (hledger.complete hi hc)

theorem Owed.dispatch {l : List Nat} (hnd : l.Nodup) {s : State} (hs : Owed l s) :
    Ledger (l.foldl Machine.completeChannel s) := by
  induction l generalizing s with
  | nil =>
    obtain ⟨hzero, f, hf, hledger⟩ := hs
    have hfz : f = s.irqFlags := by
      rw [hzero]
      exact BitVec.eq_of_getLsbD_eq fun e _ => by simpa using hf e
    rwa [hfz] at hledger
  | cons c l ih => exact ih (List.nodup_cons.1 hnd).2 (hs.completeChannel hnd)

/-- Every flag is enabled, so that a dispatch takes them all (60_exceptions.md R274). -/
theorem Ledger.pending_eq {s : State} (hs : Ledger s) : s.pending = s.irqFlags :=
  BitVec.eq_of_getLsbD_eq fun e _ => by
    rw [State.pending, BitVec.getLsbD_and]
    cases h : s.irqFlags.getLsbD e with
    | false => rfl
    | true => simp [hs.enabled_of_flag h]

theorem Ledger.dispatch {s t : State} (hs : Ledger s) (h : dispatchStep s = some t) : Ledger t := by
  obtain ⟨-, rfl⟩ := (dispatchStep_some_iff s t).1 h
  refine Owed.dispatch (List.Nodup.filter _ List.nodup_range) ⟨?_, s.irqFlags, fun c => ?_, ?_⟩
  · rw [hs.pending_eq]
    exact BitVec.and_not_self ..
  · rw [hs.pending_eq, List.mem_filter, List.mem_range]
    refine ⟨fun hf => ⟨?_, hf⟩, fun hf => hf.2⟩
    obtain ⟨i, hi⟩ := hs.slotOf_of_flag hf
    obtain ⟨-, hmap, -⟩ := hs.sized
    exact hmap ▸ State.lt_of_slotOf hi
  · exact hs

/-! ## The ledger over a turn -/

/-- A word pushed to a queue is no matter of the ledger. -/
theorem Ledger.writePGQ {s : State} (hs : Ledger s) (i : Nat) (w : Word) : Ledger (s.writePGQ i w) :=
  hs.congr (s.writePGQ_shape i w) rfl rfl rfl (fun _ => ⟨rfl, rfl⟩) rfl

/-- The transfer of an armed channel goes on with another count (43_step_engine.md R190). -/
theorem Ledger.setCount {s : State} {c : Nat} (hs : Ledger s) (hactive : (s.xferOf c).active = true) (left : Word) :
    Ledger (s.setXfer c ⟨left, true, (s.xferOf c).slot⟩) := by
  have hc := hs.slotOf_of_active hactive
  obtain ⟨hu, hcc, -, -⟩ := hs.of_slotOf hc
  have h : TransferOf (s.xferOf c).slot s (s.setXfer c ⟨left, true, (s.xferOf c).slot⟩) := .setXfer hc rfl
  refine h.ledger hs (h.seqLegal hs rfl) fun _ => ?_
  obtain ⟨hrun, haf, hab, -⟩ := hs.exact hu
  simp only [hcc, hactive, Bool.true_and, true_or, iff_true] at hrun haf hab
  exact runningExact_of_values hcc hrun (congrArg Xfer.active (State.xferOf_setXfer_self (State.lt_of_active hactive))) haf hab rfl

/-- The last word of an armed channel: the channel is idle and its flag set (R190). -/
theorem Ledger.setDone {s : State} {c : Nat} (hs : Ledger s) (hactive : (s.xferOf c).active = true) :
    Ledger ((s.setXfer c ⟨0#32, false, (s.xferOf c).slot⟩).setIrqFlag c) := by
  have hc := hs.slotOf_of_active hactive
  obtain ⟨hu, hcc, -, -⟩ := hs.of_slotOf hc
  have hbit : ∀ e, (s.irqFlags ||| bitAt c).getLsbD e = (s.irqFlags.getLsbD e || decide (c = e)) := fun e => by
    simp [getLsbD_bitAt, hs.lt_32_of_slotOf hc]
  have hxfer : TransferOf (s.xferOf c).slot s (s.setXfer c ⟨0#32, false, (s.xferOf c).slot⟩) := .setXfer hc rfl
  have h : TransferOf (s.xferOf c).slot s ((s.setXfer c ⟨0#32, false, (s.xferOf c).slot⟩).setIrqFlag c) :=
    hxfer.trans (.setFlags fun e he => by
      have hne : c ≠ e := fun hce => he (hce ▸ hc)
      simpa [hne] using hbit e)
  refine h.ledger hs (h.seqLegal hs rfl) fun _ => ?_
  obtain ⟨hrun, haf, hab, -⟩ := hs.exact hu
  simp only [hcc, hactive, Bool.true_and, true_or, iff_true] at hrun haf hab
  have hflag : (s.irqFlags ||| bitAt c).getLsbD c = true := by simp [hbit]
  exact runningExact_of_values hcc hrun (congrArg Xfer.active (State.xferOf_setXfer_self (State.lt_of_active hactive)))
    hflag hab rfl

theorem Ledger.beat {c : Nat} {s t : State} (hs : Ledger s) (h : beatStep c s = some t) : Ledger t := by
  obtain ⟨hactive, -, rfl⟩ := (beatStep_some_iff c s t).1 h
  split
  · exact (hs.writePGQ _ _).setDone hactive
  · exact (hs.writePGQ _ _).setCount hactive _

theorem Ledger.pulse {p : Nat} {s t : State} (hs : Ledger s) (h : pulseStep p s = some t) : Ledger t := by
  have hshape := pulseStep_shape h
  obtain ⟨w, rest, -, rfl⟩ := (pulseStep_some_iff p s t).1 h
  exact hs.congr hshape rfl rfl rfl (fun _ => ⟨rfl, rfl⟩) rfl

/-- MOVE_BLOCK is accepted on an idle claimed slot: it runs while MOVE_BLOCK is in progress (43_step_engine.md R192). -/
theorem Ledger.startBlock {s : State} {i n : Nat} {v delayStep : Int} {dir : Bool} (hs : Ledger s)
    (hidle : s.seq = .idle) (hu : (s.device i).inUse = true) (hr : (s.device i).running = false) :
    Ledger ((s.modDevice i fun d => { d with running := true }).beginMacro (.block i n v dir delayStep)) := by
  have hrise : TransferOf i s (s.modDevice i fun d => { d with running := true }) := .modDevice s rfl
  have h : TransferOf i s ((s.modDevice i fun d => { d with running := true }).beginMacro (.block i n v dir delayStep)) :=
    hrise.trans (.seat fun j hj => by simp [hidle, Seq.blocks, Ne.symm hj])
  have hd : (s.modDevice i fun d => { d with running := true }).device i = { s.device i with running := true } :=
    State.device_modDevice_self (State.lt_of_inUse hu)
  refine h.ledger hs ((congrArg Device.inUse hd).trans hu) fun _ => ?_
  obtain ⟨hactive, hflag, -⟩ := runningExact_of_idle (hs.exact hu) hr
  exact runningExact_of_values (congrArg Device.ccChan hd) (congrArg Device.running hd) hactive hflag
    ((blockOn_iff _ i).2 rfl) rfl

/-- MOVE_BLOCK ends in its drain, and `running` falls with it (R195). -/
theorem Ledger.drain {s : State} {i : Nat} {r r' : Result} (hs : Ledger s) (hq : s.seq = .blockDrain i r) :
    Ledger ((s.modDevice i fun d => { d with running := false }).endMacro r') := by
  have hblock : blockOn s i = true := (blockOn_iff s i).2 (by rw [hq]; rfl)
  have hu := hs.inUse_of_blockOn hblock
  have hfall : TransferOf i s (s.modDevice i fun d => { d with running := false }) := .modDevice s rfl
  have h : TransferOf i s ((s.modDevice i fun d => { d with running := false }).endMacro r') :=
    hfall.trans (.seat fun j hj => by simp [hq, Seq.blocks, Ne.symm hj])
  have hd : (s.modDevice i fun d => { d with running := false }).device i = { s.device i with running := false } :=
    State.device_modDevice_self (State.lt_of_inUse hu)
  refine h.ledger hs trivial fun _ => ?_
  obtain ⟨-, -, hab, hfb⟩ := hs.exact hu
  simp only [hblock, Bool.and_true] at hab hfb
  exact runningExact_of_values (congrArg Device.ccChan hd) (congrArg Device.running hd) hab hfb rfl rfl

/-- After reset no slot is claimed and no channel is mapped, enabled, armed or flagged (10_state.md R52). -/
theorem Ledger.resetOf {c : Cfg} (hc : c.ok = true) : Ledger (State.resetOf c) := by
  have hunused : ∀ i, ((State.resetOf c).device i).inUse = false := fun i => by
    simp [State.device, State.resetOf, Device.reset]
  have hslot : ∀ e, (State.resetOf c).slotOf e = none := fun e => by simp [State.slotOf, State.resetOf]
  have hxfer : ∀ e, (State.resetOf c).xferOf e = Xfer.reset := fun e => by simp [State.xferOf, State.resetOf]
  have hsets := hc
  simp only [Cfg.ok, Bool.and_eq_true] at hsets
  obtain ⟨-, -, -, -, -, hcc, hpg, -⟩ := hsets
  refine ⟨hc, (State.sized_iff_shape _).2 (State.resetOf_shape c), trivial, ⟨hcc, hpg, ?distinct, ?slots, ?channels⟩,
    ?running⟩
  case distinct =>
    intro i _ j _ hi
    simp [hunused] at hi
  case slots =>
    intro i _ hi
    simp [hunused] at hi
  case channels =>
    intro e _
    have henable : (State.resetOf c).irqEnable.getLsbD e = false := BitVec.getLsbD_zero
    have hflag : (State.resetOf c).irqFlags.getLsbD e = false := BitVec.getLsbD_zero
    simp [ChannelLegal, hslot, hxfer, henable, hflag, Xfer.reset]
  case running =>
    intro i _ hi
    simp [hunused] at hi

theorem Turn.ledger {a : Agent} {s t : State} (h : Turn a s t) (hport : PortDiscipline s) (hs : Ledger s) :
    Ledger t := by
  cases h with
  | accept hfree h =>
    have hidle := seq_idle_of_free hport hfree
    cases h with
    | ends h => exact (h.ledger hs).seat rfl ((seqLegal_iff _).1 (h.ledger hs).sequencer)
    | starts h _ hb hslots =>
      exact (h.ledger hs).seat (by rw [hb, h.seq_eq, hidle]; rfl) fun i hi => h.inUse (hslots i hi)
    | block hu hr => exact hs.startBlock hidle hu hr
  | sequence _ h =>
    have hclaimed := (seqLegal_iff s).1 hs.sequencer
    cases h with
    | goes h hq =>
      exact (h.ledger hs).seat (by rw [hq.blocks, h.seq_eq]) fun i hi => h.inUse (hclaimed i (hq.slots i hi))
    | pushes _ hq => exact (hs.writePGQ _ _).seat hq.blocks fun i hi => hclaimed i (hq.slots i hi)
    | ends hb => exact hs.seat hb.symm (by simp [Seq.slots])
    | drains hq => exact hs.drain hq
  | beat h => exact hs.beat h
  | pulse h => exact hs.pulse h
  | dispatch h => exact hs.dispatch h
  | reset => exact Ledger.of_bare (s := State.resetOf s.cfg) rfl (.resetOf hs.cfgOk)

/-! ## The fault word -/

/-- A named bit set leaves the word named (60_exceptions.md R271). -/
theorem faultBitsNamed_raise {s : State} {f : Word} (hs : FaultBitsNamed s) (hf : f &&& ~~~0x3F#32 = 0#32) :
    FaultBitsNamed (s.raiseFault f) := by
  rw [FaultBitsNamed, State.raiseFault_fault, BitVec.and_or_distrib_right, hs, hf]
  rfl

theorem Edit.faultBits {k : Scope} {s t : State} (h : Edit k s t) (hs : FaultBitsNamed s) : FaultBitsNamed t := by
  cases h with
  | outside h => exact (congrArg (· &&& ~~~0x3F#32) (State.eq_of_bare h State.fault)).trans hs
  | raise hf => exact faultBitsNamed_raise hs hf
  | write | arm | claim => exact hs

theorem Edits.faultBits {k : Scope} {s t : State} (h : Edits k s t) (hs : FaultBitsNamed s) : FaultBitsNamed t :=
  h.preserve Edit.faultBits hs

theorem Turn.faultBits {a : Agent} {s t : State} (h : Turn a s t) (hs : FaultBitsNamed s) : FaultBitsNamed t := by
  cases h with
  | accept _ h =>
    cases h with
    | ends h | starts h => exact (h.faultBits hs :)
    | block => exact hs
  | sequence _ h =>
    cases h with
    | goes h => exact (h.faultBits hs :)
    | pushes | ends | drains => exact hs
  | @beat c _ _ h =>
    obtain ⟨-, -, rfl⟩ := (beatStep_some_iff c s t).1 h
    split <;> exact hs
  | @pulse p _ _ h =>
    obtain ⟨w, rest, -, rfl⟩ := (pulseStep_some_iff p s t).1 h
    exact hs
  | dispatch h => exact dispatch_preserve (fun _ hu => hu) (fun _ hu => hu) Edit.faultBits h hs
  | reset => exact BitVec.zero_and

/-! ## The invariant -/

/-- The invariant is the ledger with the clauses that stand by themselves. -/
theorem inv_iff (s : State) :
    Inv s ↔ Ledger s ∧ FaultBitsNamed s ∧ PortDiscipline s ∧ DevicesLegal s ∧ QueuesBounded s :=
  ⟨fun h => ⟨⟨h.cfgOk, h.sized, h.sequencer, h.registry, h.running⟩, h.faultBits, h.port, h.devices, h.queues⟩,
    fun ⟨h, hf, hp, hd, hq⟩ => ⟨h.cfgOk, h.sized, hf, hp, h.sequencer, hd, hq, h.registry, h.running⟩⟩

/-- What is outside the machine is no matter of the invariant. -/
theorem inv_of_bare {s t : State} (h : t.bare = s.bare) (hs : Inv s) : Inv t := by
  rw [inv_iff] at hs ⊢
  obtain ⟨hl, hf, hp, hd, hq⟩ := hs
  refine ⟨hl.of_bare h, ?_, ?_, ?_, ?_⟩
  · rwa [FaultBitsNamed, State.eq_of_bare h State.fault]
  · rwa [PortDiscipline, State.eq_of_bare h State.cmdBusy, State.eq_of_bare h State.seq]
  · rwa [DevicesLegal, State.eq_of_bare h State.cfg, State.eq_of_bare h State.dev]
  · exact queuesBounded_of_still (State.still_eq_of_bare h) hq

/-- Settles O11: the reset state has no claimed slot, no transfer, an idle sequencer and empty queues. -/
theorem resetMeetsInvariant : Obligations.ResetMeetsInvariant := by
  intro c agents ops answers hc
  refine inv_of_bare (s := State.resetOf c) rfl ((inv_iff _).2 ⟨.resetOf hc, BitVec.zero_and, ?_, fun d hd hu => ?_, fun q hq => ?_⟩)
  · simp [PortDiscipline, State.resetOf]
  · rw [List.eq_of_mem_replicate hd] at hu
    cases hu
  · rw [List.eq_of_mem_replicate hq]
    exact Nat.zero_le _

theorem Turn.inv {a : Agent} {s t : State} (h : Turn a s t) (hs : Inv s) : Inv t := by
  rw [inv_iff] at hs ⊢
  obtain ⟨hl, hf, hp, hd, hq⟩ := hs
  exact ⟨h.ledger hp hl, h.faultBits hf, h.portDiscipline hp, h.devicesLegal hl.cfgOk hd, h.queuesBounded hq⟩

/-- Settles O12: every turn keeps the ledger, where the flags a dispatch has taken and not yet served count as set, and
each clause that stands by itself. -/
theorem stepKeepsInvariant : Obligations.StepKeepsInvariant := by
  intro s t hs h
  obtain ⟨u, hu, ht⟩ := step_turn h
  have hinv : Inv u := inv_of_bare hu hs
  obtain rfl | ⟨a, -, ht⟩ := ht
  · exact hinv
  · exact ht.inv hinv

end Sys2Proof.Machine

/-! # The host window and the command port

What an access of the host window does, told by the register it reaches (20_memory.md R75 to R79), and the step of the
host's turn that it makes. -/

namespace Sys2Proof.Machine

open Sys2Proof.Safety Sys2Proof.Claims

/-! ## The register an access reaches -/

/-- An aligned word of the window is told by its offset from the base (R75). -/
@[simp] theorem State.windowReg_offset (s : State) (k : Nat) :
    s.windowReg (s.cfg.base + k) 4 = registerAt k := by
  rw [State.windowReg, if_pos ⟨rfl, Nat.le_add_right _ _⟩, Nat.add_sub_cancel_left]

/-- The register at the base is `CMD` (R75). -/
@[simp] theorem State.windowReg_base (s : State) : s.windowReg s.cfg.base 4 = some .cmd := s.windowReg_offset 0

/-- Past the last register, and off a word boundary, there is no register (R75, R77). -/
theorem registerAt_eq_none {k : Nat} (h : 0x1C < k ∨ k % 4 ≠ 0) : registerAt k = none := by
  unfold registerAt
  split
  case h_9 => rfl
  all_goals exact absurd h (by decide)

/-- An access that is no aligned word of the window reaches no register (R77, U12). -/
theorem State.windowReg_eq_none {s : State} {addr size : Nat}
    (h : size ≠ 4 ∨ addr < s.cfg.base ∨ s.cfg.base + 0x1C < addr ∨ (addr - s.cfg.base) % 4 ≠ 0) :
    s.windowReg addr size = none := by
  unfold State.windowReg
  split
  next hin =>
    obtain ⟨hsize, hbase⟩ := hin
    exact registerAt_eq_none (by omega)
  next => rfl

/-! ## What an access does -/

theorem hostAccess_read {s : State} {addr size : Nat} {r : WindowReg} (h : s.windowReg addr size = some r) :
    hostAccess (.read addr size) s = .next (s.reply (.data (s.windowRead r))) := by
  simp only [hostAccess, h]

theorem hostAccess_write {s : State} {addr size : Nat} {r : WindowReg} (h : s.windowReg addr size = some r) (w : Word) :
    hostAccess (.write addr size w) s = windowWrite r w s := by
  simp only [hostAccess, h]

theorem hostAccess_read_rejected {s : State} {addr size : Nat} (h : s.windowReg addr size = none) :
    hostAccess (.read addr size) s = .next (s.reply .rejected) := by
  simp only [hostAccess, h]

theorem hostAccess_write_rejected {s : State} {addr size : Nat} (h : s.windowReg addr size = none) (w : Word) :
    hostAccess (.write addr size w) s = .next (s.reply .rejected) := by
  simp only [hostAccess, h]

/-- A register other than `CMD` ignores a write (U24). -/
theorem windowWrite_of_ne_cmd {r : WindowReg} (h : r ≠ .cmd) (w : Word) (s : State) :
    windowWrite r w s = .next (s.reply .ignored) := by
  cases r
  case cmd => exact absurd rfl h
  all_goals rfl

/-- Every register past `CMD` is read-only (R75). -/
theorem hostAccess_write_readOnly {s : State} {k : Nat} (h1 : 1 ≤ k) (h7 : k ≤ 7) (w : Word) :
    hostAccess (.write (s.cfg.base + 4 * k) 4 w) s = .next (s.reply .ignored) := by
  have hreg : ∃ r, registerAt (4 * k) = some r ∧ r ≠ .cmd := by
    interval_cases k <;> exact ⟨_, rfl, by decide⟩
  obtain ⟨r, hr, hne⟩ := hreg
  rw [hostAccess_write (s.windowReg_offset _ |>.trans hr), windowWrite_of_ne_cmd hne]

/-- A write to `CMD` while a command runs is ignored (U19). -/
theorem hostAccess_write_cmd_busy {s : State} (hb : s.cmdBusy = true) (w : Word) :
    hostAccess (.write s.cfg.base 4 w) s = .next (s.reply .ignored) := by
  rw [hostAccess_write s.windowReg_base, windowWrite, if_pos hb]

/-- A write to a free `CMD` hands its word to the command port (R75). -/
theorem hostAccess_write_cmd_free {s : State} (hb : s.cmdBusy = false) (w : Word) :
    hostAccess (.write s.cfg.base 4 w) s = acceptWord w (s.reply .taken) := by
  rw [hostAccess_write s.windowReg_base, windowWrite, if_neg (by simp [hb])]

/-- A word that leaves its descriptor unfinished is kept (R75, 30_encoding.md R99). -/
theorem acceptWord_of_partial {s : State} {w : Word} (h : decode (s.cmdBuf ++ [w]) = none) :
    acceptWord w s = .next { s with cmdBuf := s.cmdBuf ++ [w] } := by
  simp only [acceptWord, h]

/-- The word that makes its descriptor whole runs it (R75, 30_encoding.md R99). -/
theorem acceptWord_of_whole {s : State} {w : Word} {d : Decoded} {rest : List Word}
    (h : decode (s.cmdBuf ++ [w]) = some (d, rest)) : acceptWord w s = runDecoded d { s with cmdBuf := [] } := by
  simp only [acceptWord, h]

/-- The `STATUS` word by its arithmetic: bit 0 is `cmd_busy`, bit 1 the line (R75). -/
theorem State.statusWord_eq_ofNat (s : State) :
    s.statusWord =
      BitVec.ofNat 32 (s.cmdBusy.toNat + 2 * (decide (s.irqFlags &&& s.irqEnable ≠ 0#32)).toNat) := by
  have hline : s.irqLine = decide (s.irqFlags &&& s.irqEnable ≠ 0#32) := by
    rw [Bool.eq_iff_iff, State.irqLine, State.pending, bne_iff_ne, decide_eq_true_iff]
  rw [State.statusWord, hline]
  generalize decide (s.irqFlags &&& s.irqEnable ≠ 0#32) = line
  cases s.cmdBusy <;> cases line <;> rfl

/-- Settles O59: the reads by the offset of the register, the writes by whether it is a free `CMD`, the rest by there
being no register. -/
theorem hostWindowAccesses : Obligations.HostWindowAccesses := by
  intro s w
  have read (k : Nat) {r : WindowReg} (hr : registerAt k = some r) :
      hostAccess (.read (s.cfg.base + k) 4) s = .next (s.reply (.data (s.windowRead r))) :=
    hostAccess_read (s.windowReg_offset k |>.trans hr)
  refine ⟨read 0x00 rfl, ?result, read 0x08 rfl, read 0x0C rfl, ?status, read 0x14 rfl, read 0x18 rfl, read 0x1C rfl,
    fun k h1 h7 => hostAccess_write_readOnly h1 h7 w, fun hb => hostAccess_write_cmd_busy hb w, ?kept, ?rejected⟩
  case result =>
    rw [read 0x04 rfl, BitVec.ofNat_toNat]
    rfl
  case status =>
    rw [read 0x10 rfl, State.windowRead, State.statusWord_eq_ofNat]
    rfl
  case kept =>
    intro hb hpartial
    rw [hostAccess_write_cmd_free hb]
    exact acceptWord_of_partial hpartial
  case rejected =>
    intro addr size hout
    have hnone : s.windowReg addr size = none := State.windowReg_eq_none hout
    exact ⟨hostAccess_read_rejected hnone, hostAccess_write_rejected hnone w⟩

/-! ## The host's turn -/

/-- The host's turn makes its next access (00_scope.md R13). -/
theorem step_of_host {s : State} {agents : List Agent} {op : HostOp} {ops : List HostOp} (hc : s.cfg.ok = true)
    (hs : s.schedule = .host :: agents) (ho : s.hostOps = op :: ops) :
    step s = hostAccess op { s with schedule := agents, hostOps := ops } := by
  simp only [step, advance, if_pos hc, hs, agentStep, hostStep, ho]

/-- The host's turn on a free port, its next access the last word of a descriptor, runs what that decodes to (R75). -/
theorem step_of_last_word {s : State} {agents : List Agent} {ops : List HostOp} {w : Word} {d : Decoded}
    {rest : List Word} (hc : s.cfg.ok = true) (hb : s.cmdBusy = false) (hs : s.schedule = .host :: agents)
    (ho : s.hostOps = .write s.cfg.base 4 w :: ops) (hd : decode (s.cmdBuf ++ [w]) = some (d, rest)) :
    step s = runDecoded d
      { s with schedule := agents, hostOps := ops, hostLog := s.hostLog ++ [.taken], cmdBuf := [] } := by
  rw [step_of_host hc hs ho]
  exact (hostAccess_write_cmd_free (s := { s with schedule := agents, hostOps := ops }) hb w).trans
    (acceptWord_of_whole hd)

/-- Settles O7: the turn runs the decoded descriptor, which is a command or one of the two refusals (R100). -/
theorem stepRunsDecodedCommand : Obligations.StepRunsDecodedCommand := by
  intro s agents ops w d rest hc hb hs ho hd taken
  have hrun : step s = runDecoded d taken := step_of_last_word hc hb hs ho hd
  refine ⟨hrun, fun i h => ?_, fun h => ?_, fun h => ?_⟩
  all_goals
    subst h
    exact hrun

/-! ## The placement of a table word -/

/-- A descriptor has a header (30_encoding.md R99). -/
theorem descLen_pos (h : Word) : 0 < descLen h := by
  unfold descLen
  split <;> omega

theorem layoutWords_ne_nil (nbits w : Nat) : layoutWords nbits w ≠ [] := by
  simp [layoutWords, (descLen_pos _).ne']

/-- A table word is a command when its words decode to it and nothing is left over. -/
theorem decode_of_decodeTableWord {nbits w : Nat} {i : Instr} (h : decodeTableWord nbits w = some i) :
    decode (layoutWords nbits w) = some (.command i, []) := by
  unfold decodeTableWord at h
  split at h
  next j hj => rw [hj, Option.some.inj h]
  next => cases h

/-- The word a presented descriptor waits for makes it whole. -/
theorem State.presentWords_whole (s : State) {ws : List Word} (h : ws ≠ []) :
    (s.presentWords ws).cmdBuf ++ [ws.getLastD 0#32] = ws := by
  rw [List.getLastD_eq_getLast?, List.getLast?_eq_some_getLast h]
  exact List.dropLast_append_getLast h

/-- Settles O8: the placement leaves one word to write, and its write runs the command the words decode to. -/
theorem fetchWordRunsTableInstruction : Obligations.FetchWordRunsTableInstruction := by
  intro s nbits w i hc hw
  refine step_of_last_word (s := s.withFetchWord nbits w) (d := .command i) (rest := []) hc rfl rfl rfl ?_
  exact (congrArg decode (s.presentWords_whole (layoutWords_ne_nil nbits w))).trans (decode_of_decodeTableWord hw)

end Sys2Proof.Machine

/-! # A live update and the next beat -/

namespace Sys2Proof.Machine

open Sys2Proof.Safety Sys2Proof.Claims

/-- set_delay of a value in range writes the clamped delay and its control word to the slot's record, and nothing else
(41_encoder.md R144). -/
theorem setDelay_eq_setDevice {s : State} {i v : Nat} (hv : v < 2 ^ 30) :
    s.setDelay i v = s.setDevice i (delayed s (s.device i) v) := by
  rw [setDelay_of_lt hv, State.modDevice]
  simp only [Device.recompute, encodeControl_eq_ofNat, delayed, clamped, controlWord, Cfg.clampDelay, wordOf]

/-- SET_DELAY of a delay in range on a claimed slot (41_encoder.md R145). -/
theorem exec_setDelay {s : State} {h : Byte} {v : Word} (hh : Claimed s h) (hv : v.toNat < 2 ^ 30) :
    exec (.setDelay h v) s =
      .next ((s.setDevice h.toNat (delayed s (s.device h.toNat) v.toNat)).latch Result.ok) := by
  have hvalid : s.validHandle h = true := (validHandle_iff s h).2 hh
  have hrange : ¬delayLimit ≤ v.toNat := Nat.not_le.2 hv
  simp only [exec, execSetDelay, simpleCommand, setDelayCmd, withHandle, hvalid, if_true, if_neg hrange,
    setDelay_eq_setDevice hv]

/-- An armed channel whose queue has room beats, and its beat appends the slot's control word as it then is
(43_step_engine.md R190, 20_memory.md R72). -/
theorem beatStep_appends {c i : Nat} {s : State} {d : Device} (ha : (s.xferOf c).active = true)
    (hslot : (s.xferOf c).slot = i) (hd : s.device i = d) (hp : d.pgChan < s.pgq.length)
    (hroom : (s.queue d.pgChan).length < s.cfg.qDepth) :
    ∃ u, beatStep c s = some u ∧ u.queue d.pgChan = s.queue d.pgChan ++ [d.command] := by
  subst hslot hd
  have hfree : s.queueFull (s.device (s.xferOf c).slot).pgChan = false := decide_eq_false (Nat.not_le.2 hroom)
  refine ⟨_, (beatStep_some_iff c s _).2 ⟨ha, hfree, rfl⟩, ?_⟩
  split <;> exact State.queue_setQueue_self hp

/-- A claimed slot's pulse-generator channel has a queue (10_state.md R48, 40_registry.md R121). -/
theorem pgChan_lt_of_claimed {s : State} {h : Byte} (hs : Inv s) (hh : Claimed s h) :
    (s.device h.toNat).pgChan < s.pgq.length := by
  obtain ⟨-, hlt, hu⟩ := hh
  obtain ⟨-, -, -, hlen, -⟩ := hs.sized
  obtain ⟨-, hpg, -⟩ := hs.registry.slots h.toNat hlt hu
  rwa [hlen]

/-- Settles O39: SET_DELAY writes the slot's record and no queue, and the beat reads the control word from the record. -/
theorem liveUpdateReachesNextBeat : Obligations.LiveUpdateReachesNextBeat := by
  intro s c h v hs hh ha hslot hv d hroom
  have hi : h.toNat < s.dev.length := by
    obtain ⟨-, -, hu⟩ := hh
    exact State.lt_of_inUse hu
  obtain ⟨u, hbeat, hqueue⟩ := beatStep_appends (s := (s.setDevice h.toNat (delayed s d v.toNat)).latch Result.ok)
    (d := delayed s d v.toNat) ha hslot (State.device_setDevice_self hi) (pgChan_lt_of_claimed hs hh) hroom
  exact ⟨_, u, exec_setDelay hh hv, rfl, hbeat, hqueue⟩

end Sys2Proof.Machine

/-! # The descriptor encoding

The decoder names a row exactly by the row's opcode and fixed header fields (`opOf_eq_some_iff`), and so do the row's
match and mask (`row_matches_iff`). `assemble` reads the operands back (`assemble_encode`), and from nothing but the words
that carry them (`encode_of_assemble`). The two round trips and the refusals of 30_encoding.md R100 rest on these. -/

namespace Sys2Proof

open Sys2Proof.Machine Sys2Proof.Laws

/-! ## A word by its fields -/

theorem word_eq_iff_fields {w v : Word} :
    w = v ↔ opField w = opField v ∧ devField w = devField v ∧ auxField w = auxField v ∧ tagField w = tagField v := by
  constructor
  · rintro rfl
    exact ⟨rfl, rfl, rfl, rfl⟩
  · rintro ⟨hop, hdev, haux, htag⟩
    rw [← wordOfFields_fields w, hop, hdev, haux, htag, wordOfFields_fields]

/-- A header is the header of its fields (30_encoding.md R93). -/
theorem eq_headerOf_iff {h : Word} {op dev aux tag : Byte} :
    h = headerOf op dev aux tag ↔ opField h = op ∧ devField h = dev ∧ auxField h = aux ∧ tagField h = tag := by
  rw [word_eq_iff_fields, opField_headerOf, devField_headerOf, auxField_headerOf, tagField_headerOf]

/-- A header and a mask give a match when they do so in each field. -/
theorem and_eq_iff_fields {h m v : Word} :
    h &&& m = v ↔ opField h &&& opField m = opField v ∧ devField h &&& devField m = devField v ∧
      auxField h &&& auxField m = auxField v ∧ tagField h &&& tagField m = tagField v := by
  rw [word_eq_iff_fields]
  simp only [opField, devField, auxField, tagField, BitVec.extractLsb'_and]

/-- A byte the mask takes whole. -/
theorem and_0xFF (b : Byte) : b &&& 0xFF#8 = b := BitVec.and_allOnes

/-- A byte with no bit but bit 0 is the one-bit operand it carries (R96). -/
theorem auxOfBool_of_reserved {b : Byte} (h : b &&& 0xFE#8 = 0#8) : auxOfBool b[0] = b := by
  revert b
  decide

@[simp] theorem auxOfBool_getElem_zero (b : Bool) : (auxOfBool b)[0] = b := auxOfBool_bit b

/-- The range of bits up to a word's top is zero when the word is that small. -/
theorem extractLsb'_top_eq_zero_iff {w : Word} {start len : Nat} (h : start + len = 32) :
    w.extractLsb' start len = 0#len ↔ w.toNat / 2 ^ start = 0 := by
  have hlt : w.toNat / 2 ^ start < 2 ^ len := by
    rw [Nat.div_lt_iff_lt_mul (by positivity), ← pow_add, Nat.add_comm, h]
    exact w.isLt
  rw [BitVec.toNat_eq, BitVec.extractLsb'_toNat, Nat.shiftRight_eq_div_pow, Nat.mod_eq_of_lt hlt, BitVec.toNat_ofNat,
    Nat.zero_mod]

/-- A byte inside a range of zero bits is zero. -/
theorem byte_eq_zero_of_range {w : Word} {start len k : Nat} (h : w.extractLsb' start len = 0#len)
    (hlo : start ≤ k) (hhi : k + 8 ≤ start + len) : w.extractLsb' k 8 = 0#8 := by
  ext j hj
  have hbit : (w.extractLsb' start len).getLsbD (k - start + j) = false := by rw [h]; simp
  have hin : k - start + j < len := by omega
  have hk : start + (k - start + j) = k + j := by omega
  simpa [hin, hk] using hbit

/-- A word with zeros above its low half is the word of that half's two bytes. -/
theorem wordOfFields_of_high_half {w : Word} (h : w.extractLsb' 16 16 = 0#16) :
    wordOfFields (w.extractLsb' 0 8) (w.extractLsb' 8 8) 0#8 0#8 = w := by
  have haux : auxField w = 0#8 := byte_eq_zero_of_range h (by decide) (by decide)
  have htag : tagField w = 0#8 := byte_eq_zero_of_range h (by decide) (by decide)
  have hw := wordOfFields_fields w
  rwa [haux, htag] at hw

/-- A word with zeros above its low byte is the word of that byte. -/
theorem wordOfFields_of_high_bytes {w : Word} (h : w.extractLsb' 8 24 = 0#24) :
    wordOfFields (w.extractLsb' 0 8) 0#8 0#8 0#8 = w := by
  have hdev : devField w = 0#8 := byte_eq_zero_of_range h (by decide) (by decide)
  have haux : auxField w = 0#8 := byte_eq_zero_of_range h (by decide) (by decide)
  have htag : tagField w = 0#8 := byte_eq_zero_of_range h (by decide) (by decide)
  have hw := wordOfFields_fields w
  rwa [hdev, haux, htag] at hw

/-! ## The header of a row -/

/-- The opcode of a row (30_encoding.md R94). -/
def Op.code : Op → Byte
  | .alloc => 0x01#8
  | .config2 => 0x02#8
  | .config4 => 0x03#8
  | .setDir => 0x10#8
  | .setEn => 0x11#8
  | .setDelay => 0x12#8
  | .setAccel => 0x13#8
  | .setPos => 0x14#8
  | .setMinspd => 0x15#8
  | .setMaxspd => 0x16#8
  | .spd2dly => 0x18#8
  | .dly2spd => 0x19#8
  | .get => 0x1A#8
  | .stkPush => 0x20#8
  | .stkPop => 0x21#8
  | .moveAsyncNone | .moveAsyncRamp | .moveAsyncUser => 0x30#8
  | .moveBlock => 0x31#8
  | .waitIdle => 0x32#8
  | .moveTo => 0x40#8
  | .moveMulti => 0x41#8

/-- What a row asks of the header fields other than the opcode: its reserved bits are zero, and `aux` is the callback
kind of a MOVE_ASYNC (R93, R94, R97). -/
def Op.FieldsFit (op : Op) (h : Word) : Prop :=
  match op with
  | .alloc | .spd2dly | .dly2spd => devField h = 0#8 ∧ auxField h = 0#8 ∧ tagField h = 0#8
  | .setDir | .setEn | .moveBlock => auxField h &&& 0xFE#8 = 0#8 ∧ tagField h = 0#8
  | .get => tagField h = 0#8
  | .moveAsyncRamp => auxField h = 1#8 ∧ tagField h = 0#8
  | .moveAsyncUser => auxField h = 2#8
  | .moveMulti => devField h = 0#8 ∧ tagField h = 0#8
  | .config2 | .config4 | .setDelay | .setAccel | .setPos | .setMinspd | .setMaxspd | .stkPush | .stkPop
  | .moveAsyncNone | .waitIdle | .moveTo => auxField h = 0#8 ∧ tagField h = 0#8

theorem rowIf_eq_some_iff {b : Bool} {op op' : Op} : rowIf b op = some op' ↔ b = true ∧ op = op' := by
  cases b <;> simp [rowIf]

/-- One step down the decoder's chain of opcodes; a failed test is not kept. -/
theorem ite_eq_some_elim {c : Prop} [Decidable c] {x y : Option Op} {op : Op} {p : Prop}
    (hx : c → x = some op → p) (hy : y = some op → p) : (if c then x else y) = some op → p := by
  split
  · exact hx ‹c›
  · exact hy

/-- The decoder names a row exactly by its opcode and its fixed fields. -/
theorem opOf_eq_some_iff {h : Word} {op : Op} : opOf h = some op ↔ opField h = op.code ∧ op.FieldsFit h := by
  constructor
  · unfold opOf
    dsimp only
    with_reducible repeat' refine ite_eq_some_elim (fun _ => ?_) ?_
    pick_goal -1 -- past the last opcode the answer is `none`
    · exact nofun
    all_goals
      intro hop
      obtain ⟨hfit, rfl⟩ := rowIf_eq_some_iff.1 hop
      simp only [Bool.and_eq_true, beq_iff_eq, and_assoc] at hfit
      refine ⟨‹_›, ?_⟩
      simp only [Op.FieldsFit, *, and_self]
  · rintro ⟨hcode, hfit⟩
    cases op
    all_goals
      simp only [Op.FieldsFit] at hfit
      simp [opOf, hcode, hfit, Op.code, rowIf]

/-- A row's match and mask fix its opcode and its fixed fields. -/
theorem row_matches_iff {h : Word} {op : Op} :
    (∃ r ∈ opcodeRows, r.op = op ∧ h &&& r.maskBits = r.matchBits) ↔ opField h = op.code ∧ op.FieldsFit h := by
  simp only [opcodeRows, List.cons_append, List.nil_append, List.exists_mem_cons_iff, List.not_mem_nil, false_and,
    exists_false, or_false]
  cases op
  all_goals
    simp only [reduceCtorEq, false_and, true_and, false_or, or_false, and_eq_iff_fields]
    simp [opField, devField, auxField, tagField, and_0xFF, Op.code, Op.FieldsFit]

/-- Settles O4: both sides say that the header has the row's opcode and fixed fields. -/
theorem decoderAgreesWithOpcodeTable : Obligations.DecoderAgreesWithOpcodeTable := fun _ _ =>
  opOf_eq_some_iff.trans row_matches_iff.symm

/-! ## MOVE_MULTI's mode and axis count -/

/-- The `aux` field of a MOVE_MULTI: bit 7 the mode, bits 6:0 the number of axes (30_encoding.md R96). -/
def multiAux (sequential : Bool) (n : Nat) : Byte := BitVec.ofNat 8 n ||| (if sequential then 0x80#8 else 0#8)

theorem encodeHeader_moveMulti (sequential : Bool) (axes : List (Byte × Word)) :
    encodeHeader (.moveMulti sequential axes) = headerOf 0x41#8 0#8 (multiAux sequential axes.length) 0#8 := rfl

theorem axisCount_toNat (aux : Byte) : (aux &&& 0x7F#8).toNat = aux.toNat % 128 := by
  rw [BitVec.toNat_and]
  exact Nat.and_two_pow_sub_one_eq_mod aux.toNat 7

/-- The mode and the count do not meet, so the byte is their sum. -/
theorem multiAux_toNat (sequential : Bool) {n : Nat} (h : n ≤ 127) :
    (multiAux sequential n).toNat = n + 128 * sequential.toNat := by
  have hn : n % 256 = n := Nat.mod_eq_of_lt (by omega)
  cases sequential with
  | false => simp [multiAux, hn]
  | true =>
    have hor : 2 ^ 7 * 1 + n = 2 ^ 7 * 1 ||| n := Nat.two_pow_add_eq_or_of_lt (by omega) 1
    simpa [multiAux, hn, Nat.or_comm, Nat.add_comm] using hor.symm

theorem multiAux_count (sequential : Bool) {n : Nat} (h : n ≤ 127) :
    (multiAux sequential n &&& 0x7F#8).toNat = n := by
  rw [axisCount_toNat, multiAux_toNat sequential h]
  omega

theorem multiAux_mode (sequential : Bool) {n : Nat} (h : n ≤ 127) :
    (multiAux sequential n).getLsbD 7 = sequential := by
  rw [BitVec.getLsbD, multiAux_toNat sequential h, Nat.testBit_eq_decide_div_mod_eq]
  cases sequential <;> simp <;> omega

/-- A byte is the `aux` field of its own mode and count. -/
theorem multiAux_fields (aux : Byte) : multiAux (aux.getLsbD 7) (aux &&& 0x7F#8).toNat = aux := by
  revert aux
  decide

/-! ## MOVE_MULTI's axes -/

/-- The argument words of MOVE_MULTI, two for each axis (30_encoding.md R94). -/
def axisWords (axes : List (Byte × Word)) : List Word := axes.flatMap fun a => [wordOfFields a.1 0#8 0#8 0#8, a.2]

theorem encodeArgs_moveMulti (sequential : Bool) (axes : List (Byte × Word)) :
    encodeArgs (.moveMulti sequential axes) = axisWords axes := rfl

theorem axisWords_cons (a : Byte × Word) (axes : List (Byte × Word)) :
    axisWords (a :: axes) = wordOfFields a.1 0#8 0#8 0#8 :: a.2 :: axisWords axes := rfl

@[simp] theorem axisWords_length (axes : List (Byte × Word)) : (axisWords axes).length = 2 * axes.length := by
  simp [axisWords, Nat.mul_comm]

/-- The axes are read from exactly their own words (R94, R100). -/
theorem axesOf_eq_some_iff {ws : List Word} {axes : List (Byte × Word)} :
    axesOf ws = some axes ↔ ws = axisWords axes := by
  constructor
  · intro h
    induction ws using axesOf.induct generalizing axes with
    | case1 =>
      cases h
      rfl
    | case2 => cases h
    | case3 d t rest hd ih =>
      rw [axesOf, if_pos hd, Option.map_eq_some_iff] at h
      obtain ⟨tail, htail, rfl⟩ := h
      rw [ih htail, axisWords_cons, wordOfFields_of_high_bytes hd]
    | case4 d t rest hd =>
      rw [axesOf, if_neg hd] at h
      cases h
  · rintro rfl
    induction axes with
    | nil => rfl
    | cons a axes ih => simp [axisWords_cons, axesOf, ih]

/-! ## The operands of a row (30_encoding.md R94, R96, R97) -/

@[simp] theorem assemble_alloc (h : Word) :
    assemble .alloc h [] = some .alloc := rfl
@[simp] theorem assemble_setDir (h : Word) :
    assemble .setDir h [] = some (.setDir (devField h) ((auxField h).getLsbD 0)) := rfl
@[simp] theorem assemble_setEn (h : Word) :
    assemble .setEn h [] = some (.setEn (devField h) ((auxField h).getLsbD 0)) := rfl
@[simp] theorem assemble_get (h : Word) :
    assemble .get h [] = some (.get (devField h) (auxField h)) := rfl
@[simp] theorem assemble_stkPop (h : Word) :
    assemble .stkPop h [] = some (.stkPop (devField h)) := rfl
@[simp] theorem assemble_waitIdle (h : Word) :
    assemble .waitIdle h [] = some (.waitIdle (devField h)) := rfl
@[simp] theorem assemble_setDelay (h w : Word) :
    assemble .setDelay h [w] = some (.setDelay (devField h) w) := rfl
@[simp] theorem assemble_setAccel (h w : Word) :
    assemble .setAccel h [w] = some (.setAccel (devField h) w) := rfl
@[simp] theorem assemble_setPos (h w : Word) :
    assemble .setPos h [w] = some (.setPos (devField h) w) := rfl
@[simp] theorem assemble_setMinspd (h w : Word) :
    assemble .setMinspd h [w] = some (.setMinspd (devField h) w) := rfl
@[simp] theorem assemble_setMaxspd (h w : Word) :
    assemble .setMaxspd h [w] = some (.setMaxspd (devField h) w) := rfl
@[simp] theorem assemble_spd2dly (h w : Word) :
    assemble .spd2dly h [w] = some (.spd2dly w) := rfl
@[simp] theorem assemble_dly2spd (h w : Word) :
    assemble .dly2spd h [w] = some (.dly2spd w) := rfl
@[simp] theorem assemble_stkPush (h w : Word) :
    assemble .stkPush h [w] = some (.stkPush (devField h) w) := rfl
@[simp] theorem assemble_moveAsyncNone (h w : Word) :
    assemble .moveAsyncNone h [w] = some (.moveAsyncNone (devField h) w) := rfl
@[simp] theorem assemble_moveAsyncRamp (h w : Word) :
    assemble .moveAsyncRamp h [w] = some (.moveAsyncRamp (devField h) w) := rfl
@[simp] theorem assemble_moveAsyncUser (h w : Word) :
    assemble .moveAsyncUser h [w] = some (.moveAsyncUser (devField h) (tagField h) w) := rfl
@[simp] theorem assemble_moveTo (h w : Word) :
    assemble .moveTo h [w] = some (.moveTo (devField h) w) := rfl
@[simp] theorem assemble_moveBlock (h w1 w2 w3 : Word) :
    assemble .moveBlock h [w1, w2, w3] = some (.moveBlock (devField h) ((auxField h).getLsbD 0) w1 w2 w3) := rfl
@[simp] theorem assemble_config2 (h w1 w2 : Word) :
    assemble .config2 h [w1, w2] =
      if w1.extractLsb' 16 16 = 0#16 then some (.config2 (devField h) (w1.extractLsb' 0 8) (w1.extractLsb' 8 8) w2)
      else none := rfl
@[simp] theorem assemble_config4 (h w1 w2 : Word) :
    assemble .config4 h [w1, w2] =
      if w1.extractLsb' 8 24 = 0#24 then some (.config4 (devField h) (w1.extractLsb' 0 8) w2) else none := rfl
@[simp] theorem assemble_moveMulti (h : Word) (args : List Word) :
    assemble .moveMulti h args = (axesOf args).map (.moveMulti ((auxField h).getLsbD 7)) := rfl

/-! ## Decode of encode -/

/-- The header of a well-formed command names the command's row (30_encoding.md R94, R97). -/
theorem opOf_encodeHeader {i : Instr} (hi : i.wellFormed = true) : opOf (encodeHeader i) = some (rowOf i) := by
  cases i with
  | alloc => exact HeaderRow.alloc hi
  | config2 => exact HeaderRow.config2 _ _ _ _ hi
  | config4 => exact HeaderRow.config4 _ _ _ hi
  | setDir => exact HeaderRow.setDir _ _ hi
  | setEn => exact HeaderRow.setEn _ _ hi
  | setDelay => exact HeaderRow.setDelay _ _ hi
  | setAccel => exact HeaderRow.setAccel _ _ hi
  | setPos => exact HeaderRow.setPos _ _ hi
  | setMinspd => exact HeaderRow.setMinspd _ _ hi
  | setMaxspd => exact HeaderRow.setMaxspd _ _ hi
  | spd2dly => exact HeaderRow.spd2dly _ hi
  | dly2spd => exact HeaderRow.dly2spd _ hi
  | get => exact HeaderRow.get _ _ hi
  | stkPush => exact HeaderRow.stkPush _ _ hi
  | stkPop => exact HeaderRow.stkPop _ hi
  | moveAsyncNone => exact HeaderRow.moveAsyncNone _ _ hi
  | moveAsyncRamp => exact HeaderRow.moveAsyncRamp _ _ hi
  | moveAsyncUser => exact HeaderRow.moveAsyncUser _ _ _ hi
  | moveBlock => exact HeaderRow.moveBlock _ _ _ _ _ hi
  | waitIdle => exact HeaderRow.waitIdle _ hi
  | moveTo => exact HeaderRow.moveTo _ _ hi
  | moveMulti => exact HeaderRow.moveMulti _ _ hi

theorem wellFormed_moveMulti {sequential : Bool} {axes : List (Byte × Word)} :
    (Instr.moveMulti sequential axes).wellFormed = true ↔ axes.length ≤ 127 := decide_eq_true_iff

/-- A descriptor has as many argument words as its header says (R99). -/
theorem encodeArgs_length {i : Instr} (hi : i.wellFormed = true) :
    (encodeArgs i).length = argCount (rowOf i) (encodeHeader i) := by
  cases i
  case moveMulti sequential axes =>
    rw [encodeArgs_moveMulti, axisWords_length, encodeHeader_moveMulti, rowOf, argCount, auxField_headerOf,
      multiAux_count sequential (wellFormed_moveMulti.1 hi)]
  all_goals rfl

/-- The operands are read back from the words that carry them (R94, R96, R97). -/
theorem assemble_encode {i : Instr} (hi : i.wellFormed = true) :
    assemble (rowOf i) (encodeHeader i) (encodeArgs i) = some i := by
  cases i
  case moveMulti sequential axes =>
    rw [encodeArgs_moveMulti, rowOf, assemble_moveMulti, axesOf_eq_some_iff.2 rfl, encodeHeader_moveMulti,
      auxField_headerOf, multiAux_mode sequential (wellFormed_moveMulti.1 hi), Option.map_some]
  all_goals simp [rowOf, encodeHeader, encodeArgs]

/-- Settles O2: the header names the row and the number of words, and the row's operands are read back. -/
theorem decodeOfEncode : Obligations.DecodeOfEncode := by
  intro i rest hi
  rw [encode, List.cons_append, decode_of_op (opOf_encodeHeader hi) (encodeArgs_length hi), assemble_encode hi]

/-! ## Encode of decode -/

/-- A sequence that decodes to a command is a header that names a row, that row's argument words, and the rest
(30_encoding.md R99, R100). -/
theorem decode_eq_command {ws rest : List Word} {i : Instr} (hd : decode ws = some (.command i, rest)) :
    ∃ h args op, ws = h :: (args ++ rest) ∧ opOf h = some op ∧ args.length = argCount op h ∧
      assemble op h args = some i := by
  unfold decode at hd
  split at hd
  next => cases hd
  next h tail =>
    split at hd
    next => cases hd
    next op hop =>
      split_ifs at hd with hlen
      split at hd
      next j hj =>
        cases hd
        refine ⟨h, tail.take (argCount op h), op, by rw [List.take_append_drop], hop, ?_, hj⟩
        rw [List.length_take, Nat.min_eq_left (Nat.not_lt.1 hlen)]
      next => cases hd

/-- A row's words carry nothing but the operands read from them: they are the command's own encoding. -/
theorem encode_of_assemble {h : Word} {op : Op} {args : List Word} {i : Instr} (hop : opOf h = some op)
    (hlen : args.length = argCount op h) (ha : assemble op h args = some i) :
    i.wellFormed = true ∧ h :: args = encode i := by
  obtain ⟨hcode, hfit⟩ := opOf_eq_some_iff.1 hop
  cases op
  all_goals simp only [Op.code, Op.FieldsFit] at hcode hfit
  case moveMulti =>
    rw [assemble_moveMulti, Option.map_eq_some_iff] at ha
    obtain ⟨axes, haxes, rfl⟩ := ha
    obtain rfl := axesOf_eq_some_iff.1 haxes
    obtain ⟨hdev, htag⟩ := hfit
    have hcount : axes.length = (auxField h &&& 0x7F#8).toNat := by
      rw [axisWords_length, argCount] at hlen
      omega
    refine ⟨wellFormed_moveMulti.2 (by rw [hcount, axisCount_toNat]; omega), congrArg (· :: axisWords axes) ?_⟩
    rw [encodeHeader_moveMulti, hcount, multiAux_fields, eq_headerOf_iff]
    exact ⟨hcode, hdev, rfl, htag⟩
  case config2 =>
    obtain ⟨w1, w2, rfl⟩ := List.length_eq_two.1 hlen
    rw [assemble_config2, Option.ite_none_right_eq_some, Option.some_inj] at ha
    obtain ⟨hzero, rfl⟩ := ha
    rw [encode, encodeArgs, wordOfFields_of_high_half hzero]
    exact ⟨rfl, congrArg (· :: [w1, w2]) (eq_headerOf_iff.2 ⟨hcode, rfl, hfit⟩)⟩
  case config4 =>
    obtain ⟨w1, w2, rfl⟩ := List.length_eq_two.1 hlen
    rw [assemble_config4, Option.ite_none_right_eq_some, Option.some_inj] at ha
    obtain ⟨hzero, rfl⟩ := ha
    rw [encode, encodeArgs, wordOfFields_of_high_bytes hzero]
    exact ⟨rfl, congrArg (· :: [w1, w2]) (eq_headerOf_iff.2 ⟨hcode, rfl, hfit⟩)⟩
  case moveBlock =>
    obtain ⟨w1, w2, w3, rfl⟩ := List.length_eq_three.1 hlen
    cases ha
    simp [encode, encodeHeader, encodeArgs, eq_headerOf_iff, hcode, hfit, auxOfBool_of_reserved, Instr.wellFormed]
  case alloc | setDir | setEn | get | stkPop | waitIdle =>
    obtain rfl := List.length_eq_zero_iff.1 hlen
    cases ha
    simp [encode, encodeHeader, encodeArgs, eq_headerOf_iff, hcode, hfit, auxOfBool_of_reserved, Instr.wellFormed]
  all_goals
    obtain ⟨w, rfl⟩ := List.length_eq_one_iff.1 hlen
    cases ha
    simp [encode, encodeHeader, encodeArgs, eq_headerOf_iff, hcode, hfit, Instr.wellFormed]

/-- Settles O3: the words cut off are a header and its arguments, and these are the command's own. -/
theorem encodeOfDecode : Obligations.EncodeOfDecode := by
  intro ws rest i hd
  obtain ⟨h, args, op, rfl, hop, hlen, ha⟩ := decode_eq_command hd
  obtain ⟨hi, henc⟩ := encode_of_assemble hop hlen ha
  exact ⟨hi, by rw [← henc, List.cons_append]⟩

/-! ## Words of the spec's programs -/

/-- Settles O5: each descriptor is the encoding of its command (O2). -/
theorem specDescriptorsDecode : Obligations.SpecDescriptorsDecode :=
  ⟨decodeOfEncode .alloc [] rfl,
    decodeOfEncode (.config2 0#8 3#8 2#8 0x00010000#32) [] rfl,
    decodeOfEncode (.setEn 1#8 true) [] rfl,
    decodeOfEncode (.moveAsyncUser 0#8 7#8 5#32) [] rfl,
    decodeOfEncode (.moveBlock 0#8 true 3#32 900#32 0xFFFFFFF6#32) [] rfl,
    decodeOfEncode (.moveMulti false [(0#8, 4000#32), (1#8, 2000#32)]) [] rfl⟩

/-! ## The refusals -/

/-- A header that matches no row of the table names none. -/
theorem opOf_eq_none {h : Word} (hno : ∀ r ∈ opcodeRows, h &&& r.maskBits ≠ r.matchBits) : opOf h = none := by
  refine Option.eq_none_iff_forall_ne_some.2 fun op hop => ?_
  obtain ⟨r, hr, -, hmatch⟩ := (decoderAgreesWithOpcodeTable h op).1 hop
  exact hno r hr hmatch

/-- An illegal header is one word long (30_encoding.md R100). -/
theorem decode_illegal {h : Word} (hop : opOf h = none) (rest : List Word) :
    decode (h :: rest) = some (.illegalCommand, rest) := by
  simp only [decode, hop]

/-- Callback kind 3 is in no row (R97). -/
theorem opOf_callback_kind_three (dev tag : Byte) : opOf (headerOf 0x30#8 dev 3#8 tag) = none := by
  simp [opOf, rowIf]

/-- A legal header whose words carry a reserved bit takes all its words (R100). -/
theorem decode_badArgument {h : Word} {op : Op} {args : List Word} (hop : opOf h = some op)
    (hlen : args.length = argCount op h) (hbad : assemble op h args = none) (rest : List Word) :
    decode (h :: (args ++ rest)) = some (.badArgument, rest) := by
  rw [decode_of_op hop hlen, hbad]

/-- The reserved bits of an axis's first word are zero (R94). -/
theorem axisWords_reserved (axes : List (Byte × Word)) (k : Nat) :
    ((axisWords axes).getD (2 * k) 0#32).extractLsb' 8 24 = 0#24 := by
  induction axes generalizing k with
  | nil => simp [axisWords]
  | cons a axes ih =>
    cases k with
    | zero => exact high_bytes_wordOfFields a.1
    | succ k => exact ih k

theorem axesOf_eq_none {ws : List Word} {k : Nat} (hbad : (ws.getD (2 * k) 0#32).toNat / 2 ^ 8 ≠ 0) :
    axesOf ws = none := by
  refine Option.eq_none_iff_forall_ne_some.2 fun axes haxes => hbad ?_
  rw [axesOf_eq_some_iff.1 haxes]
  exact (extractLsb'_top_eq_zero_iff rfl).1 (axisWords_reserved axes k)

theorem opOf_moveMulti (aux : Byte) : opOf (headerOf 0x41#8 0#8 aux 0#8) = some .moveMulti :=
  opOf_eq_some_iff.2 ⟨opField_headerOf .., devField_headerOf .., tagField_headerOf ..⟩

/-- The words a header asks for are cut off whatever they are (R99, R100). -/
theorem decode_cuts {h : Word} {ws : List Word} (hlen : descLen h ≤ (h :: ws).length) :
    ∃ d, decode (h :: ws) = some (d, (h :: ws).drop (descLen h)) := by
  cases hop : opOf h with
  | none => exact ⟨.illegalCommand, by simp [decode_illegal hop, descLen, hop]⟩
  | some op =>
    have hdesc : descLen h = argCount op h + 1 := by simp [descLen, hop, Nat.add_comm]
    rw [hdesc, List.length_cons, Nat.add_le_add_iff_right] at hlen
    have hcut := decode_of_op (rest := ws.drop (argCount op h)) hop (List.length_take_of_le hlen)
    rw [List.take_append_drop] at hcut
    exact ⟨_, by rw [hcut, hdesc, List.drop_succ_cons]⟩

/-- Settles O6: an illegal header names no row, a reserved argument bit leaves nothing to assemble. -/
theorem reservedDescriptorsAreRefused : Obligations.ReservedDescriptorsAreRefused := by
  refine ⟨fun h rest hno => decode_illegal (opOf_eq_none hno) rest,
    fun dev tag rest => decode_illegal (opOf_callback_kind_three dev tag) rest, ?config2, ?config4, ?moveMulti,
    fun h ws => decode_cuts, fun s => ⟨rfl, rfl⟩⟩
  case config2 =>
    intro dev w1 w2 rest hbad
    refine decode_badArgument (args := [w1, w2]) (HeaderRow.config2 dev 0#8 0#8 0#32 rfl) rfl ?_ rest
    exact if_neg (mt (extractLsb'_top_eq_zero_iff rfl).1 hbad)
  case config4 =>
    intro dev w1 w2 rest hbad
    refine decode_badArgument (args := [w1, w2]) (HeaderRow.config4 dev 0#8 0#32 rfl) rfl ?_ rest
    exact if_neg (mt (extractLsb'_top_eq_zero_iff rfl).1 hbad)
  case moveMulti =>
    rintro aux args rest hlen ⟨k, -, hbad⟩
    refine decode_badArgument (opOf_moveMulti aux) ?_ ?_ rest
    · rw [hlen, argCount, auxField_headerOf, axisCount_toNat]
    · rw [assemble_moveMulti, axesOf_eq_none hbad, Option.map_none]

end Sys2Proof

/-! # The control word -/

namespace Sys2Proof.Machine

/-- The control word as a number: the sum has no carry past bit 31 (30_encoding.md R90). -/
theorem encodeControl_toNat {delay : Word} (h : delay.toNat < 2 ^ 30) (dir en : Bool) :
    (encodeControl delay dir en).toNat = 4 * delay.toNat + 2 * dir.toNat + en.toNat := by
  have hdir := dir.toNat_lt
  have hen := en.toNat_lt
  rw [encodeControl_eq_ofNat, BitVec.toNat_ofNat, Nat.mod_eq_of_lt (by omega)]

theorem decodeControl_delay_toNat (w : Word) : (decodeControl w).1.toNat = w.toNat / 4 := by
  simp [decodeControl, Nat.shiftRight_eq_div_pow]

theorem decodeControl_delay_lt (w : Word) : (decodeControl w).1.toNat < 2 ^ 30 := by
  have := w.isLt
  rw [decodeControl_delay_toNat]
  omega

theorem decodeControl_dir_toNat (w : Word) : (decodeControl w).2.1.toNat = w.toNat / 2 % 2 :=
  Nat.toNat_testBit w.toNat 1

theorem decodeControl_en_toNat (w : Word) : (decodeControl w).2.2.toNat = w.toNat % 2 := by
  rw [← Nat.div_one w.toNat]
  exact Nat.toNat_testBit w.toNat 0

/-- The triple is read back from its control word (30_encoding.md R91). -/
theorem decodeControl_encodeControl {delay : Word} (h : delay.toNat < 2 ^ 30) (dir en : Bool) :
    decodeControl (encodeControl delay dir en) = (delay, dir, en) := by
  have hw := encodeControl_toNat h dir en
  have hdir_lt := dir.toNat_lt
  have hen_lt := en.toNat_lt
  have hinj : Function.Injective Bool.toNat := Function.LeftInverse.injective Bool.ofNat_toNat
  have hdelay : (decodeControl (encodeControl delay dir en)).1 = delay :=
    BitVec.eq_of_toNat_eq (by rw [decodeControl_delay_toNat]; omega)
  have hdir : (decodeControl (encodeControl delay dir en)).2.1 = dir := hinj (by rw [decodeControl_dir_toNat]; omega)
  have hen : (decodeControl (encodeControl delay dir en)).2.2 = en := hinj (by rw [decodeControl_en_toNat]; omega)
  exact Prod.ext hdelay (Prod.ext hdir hen)

/-- Every word is the control word of the triple it decodes to: none is reserved (R91). -/
theorem encodeControl_decodeControl (w : Word) :
    encodeControl (decodeControl w).1 (decodeControl w).2.1 (decodeControl w).2.2 = w := by
  refine BitVec.eq_of_toNat_eq ?_
  rw [encodeControl_toNat (decodeControl_delay_lt w), decodeControl_delay_toNat, decodeControl_dir_toNat,
    decodeControl_en_toNat]
  omega

/-- Settles O1: the word as a number has the three fields as its digits, and decoding reads the digits. -/
theorem controlWordLayoutAndRoundTrip : Obligations.ControlWordLayoutAndRoundTrip :=
  ⟨fun _ dir en h => ⟨encodeControl_toNat h dir en, decodeControl_encodeControl h dir en⟩,
    fun w => ⟨decodeControl_delay_lt w, encodeControl_decodeControl w⟩⟩

end Sys2Proof.Machine

/-! # Handler context -/

namespace Sys2Proof.Machine

open Sys2Proof.Claims

theorem withHandle_result {h : Byte} {s : State} {body : Nat → State × Result}
    (hb : ∀ i, (body i).1.result = s.result) : (withHandle h s body).1.result = s.result :=
  withHandle_preserves (p := fun u => u.result = s.result) rfl hb

@[simp] theorem State.setDelay_result (s : State) (i v : Nat) : (s.setDelay i v).result = s.result := by
  obtain ⟨w, k, -, -, h⟩ := setDelay_cases s i v
  rw [h]
  rfl

@[simp] theorem State.push_result (s : State) (i : Nat) (v : Word) : (s.push i v).result = s.result := by
  obtain ⟨-, h⟩ | ⟨-, h⟩ := push_cases s i v <;> simp [h]

theorem moveAsyncCmd_result (dev : Byte) (steps : Word) (cb : Callback) (s : State) :
    (moveAsyncCmd dev steps cb s).1.result = s.result :=
  withHandle_result fun i => by
    split
    next h =>
      obtain ⟨-, -, -, rfl⟩ := (startBurst_ok_iff ..).1 h
      rfl
    next => rfl

/-- No command of a handler touches the result registers (60_exceptions.md R279). -/
theorem handlerCommand_result (i : Instr) (s : State) : (handlerCommand i s).1.result = s.result := by
  cases i with
  | alloc =>
    change (allocCmd s).1.result = s.result
    unfold allocCmd
    split <;> rfl
  | setDir | setEn | setAccel | setPos => exact withHandle_result fun _ => rfl
  | config2 =>
    exact withHandle_result fun _ => by
      dsimp only
      split_ifs <;> rfl
  | config4 | setDelay | setMinspd | setMaxspd | stkPush =>
    exact withHandle_result fun _ => by split_ifs <;> simp
  | spd2dly | dly2spd | get => simp [handlerCommand]
  | stkPop =>
    exact withHandle_result fun i => by
      have hpop : (s.pop i).2.result = s.result := rfl
      split <;> next h => rwa [h] at hpop
  | moveAsyncNone | moveAsyncRamp | moveAsyncUser => exact moveAsyncCmd_result ..
  | moveBlock | waitIdle | moveTo | moveMulti => rfl

/-- A command that is not simple fails in a handler and changes nothing (30_encoding.md R95). -/
theorem handlerCommand_of_isMacro {i : Instr} (hi : i.isMacro = true) (s : State) :
    handlerCommand i s = (s, lost 7#8) := by
  cases i
  case moveBlock | waitIdle | moveTo | moveMulti => rfl
  all_goals cases hi

/-- Settles O58: both contexts run the same meaning (`exec_of_simple`), which edits neither port nor sequencer. -/
theorem handlerContextRunsSimpleCommands : Obligations.HandlerContextRunsSimpleCommands := by
  refine ⟨fun i s hi => handlerCommand_of_isMacro hi s, fun i s hi => ?_⟩
  obtain ⟨-, hseq, hbusy, -, -⟩ := State.still_inj.1 (handlerCommand_edits i s).still_eq
  exact ⟨exec_of_simple hi s, hbusy, hseq, handlerCommand_result i s⟩

end Sys2Proof.Machine

/-! # The registry

ALLOC reads three choices and writes one claim. Each choice has its lemma in the terms of `AllocChoice`, and NDEV
allocations from reset are an induction over `FirstClaimed`: the slots below `n` hold the channels of their own number,
and every other slot and channel is free. -/

namespace Sys2Proof.Machine

open Sys2Proof.Claims

/-! ## What ALLOC chooses (40_registry.md R121, R122) -/

theorem State.firstUnused_eq_some {s : State} {i : Nat} (hi : i < s.cfg.nDev) (hu : (s.device i).inUse = false)
    (hleast : ∀ j < i, (s.device j).inUse = true) : s.firstUnused = some i :=
  List.find?_range_eq_some.2 ⟨by simpa using hu, List.mem_range.2 hi, by simpa using hleast⟩

theorem State.firstUnused_eq_none {s : State} (h : ∀ i < s.cfg.nDev, (s.device i).inUse = true) :
    s.firstUnused = none :=
  List.find?_range_eq_none.2 (by simpa using h)

theorem pickCc_eq_some {free : List Nat} {c : Nat} (hc : c ∈ free) (hleast : ∀ q ∈ free, c ≤ q) :
    pickCc free = some c :=
  List.min?_eq_some_iff.2 ⟨hc, hleast⟩

/-- The least free channel of the first bank that has a free one (R122). -/
theorem pickPg_eq_some {pgpb p : Nat} {free : List Nat} (hp : p ∈ free)
    (hbank : p < pgpb ∨ ∀ q ∈ free, pgpb ≤ q) (hleast : ∀ q ∈ free, (q < pgpb ↔ p < pgpb) → p ≤ q) :
    pickPg pgpb free = some p := by
  by_cases hlt : p < pgpb
  · have hprimary : (free.filter fun q => decide (q < pgpb)).min? = some p :=
      List.min?_eq_some_iff.2 ⟨by simp [hp, hlt], fun q hq => by
        obtain ⟨hmem, hq⟩ := List.mem_filter.1 hq
        exact hleast q hmem (iff_of_true (of_decide_eq_true hq) hlt)⟩
    rw [pickPg, hprimary]
  · have hsecondary := hbank.resolve_left hlt
    have hprimary : (free.filter fun q => decide (q < pgpb)) = [] := by simpa using hsecondary
    have hall : (free.filter fun q => decide (pgpb ≤ q)) = free := by simpa using hsecondary
    rw [pickPg, hprimary, hall]
    exact List.min?_eq_some_iff.2 ⟨hp, fun q hq => hleast q hq (iff_of_false (hsecondary q hq).not_gt hlt)⟩

/-! ## What ALLOC answers -/

theorem allocCmd_of_choice {s : State} {i p c : Nat} (h : AllocChoice s i p c) :
    allocCmd s = (s.claim i p c, won (BitVec.ofNat 32 i) 0#32) := by
  obtain ⟨⟨hi, hu, hfirst⟩, ⟨hp, hbank, hleast⟩, hc, hleastCc⟩ := h
  rw [allocCmd, State.firstUnused_eq_some hi hu hfirst, pickPg_eq_some hp hbank hleast, pickCc_eq_some hc hleastCc]
  rfl

/-- With one of the three choices missing ALLOC writes nothing (R123). -/
theorem allocCmd_of_none {s : State}
    (h : s.firstUnused = none ∨ pickPg s.cfg.pgpb s.pgFree = none ∨ pickCc s.ccFree = none) :
    allocCmd s = (s, Result.exhausted) := by
  unfold allocCmd
  split
  next hi hp hc => simp [hi, hp, hc] at h
  next => rfl

theorem exec_alloc (s : State) : exec .alloc s = .next (done (allocCmd s).1 (allocCmd s).2) := exec_of_simple rfl s

/-- Settles O23: each cause takes one of the three choices away. -/
theorem allocFailsWhole : Obligations.AllocFailsWhole := by
  intro s h
  have hnone : s.firstUnused = none ∨ pickPg s.cfg.pgpb s.pgFree = none ∨ pickCc s.ccFree = none := by
    obtain hused | hpg | hcc := h
    · exact .inl (State.firstUnused_eq_none hused)
    · exact .inr (.inl (by rw [hpg]; rfl))
    · exact .inr (.inr (by rw [hcc]; rfl))
  rw [exec_alloc, allocCmd_of_none hnone]
  rfl

theorem bitAt_eq_ofNat (c : Nat) : bitAt c = BitVec.ofNat 32 (2 ^ c) :=
  BitVec.eq_of_toNat_eq (BitVec.toNat_twoPow 32 c)

/-- Settles O22: the three choices are those of `AllocChoice`, and the claim writes what R121 and R53 list. -/
theorem allocClaimsLeastFree : Obligations.AllocClaimsLeastFree := by
  intro s i p c h
  refine ⟨Config.freeVariant s.freeIx, Config.freePin s.freeIx, Config.freeDivisor s.freeIx, ?_⟩
  rw [exec_alloc, allocCmd_of_choice h]
  simp only [controlWord, ← encodeControl_eq_ofNat, ← bitAt_eq_ofNat, decide_not, ne_eq]
  rfl

/-! ## Allocations from reset (R128) -/

/-- The slots below `n` are claimed, each with the channels of its own number; every other slot and channel is free. -/
structure FirstClaimed (c : Cfg) (n : Nat) (s : State) : Prop where
  cfg_eq : s.cfg = c
  dev_length : s.dev.length = c.nDev
  claimed : ∀ i < n, (s.device i).inUse = true ∧ (s.device i).pgChan = i ∧ (s.device i).ccChan = i
  unused : ∀ i, n ≤ i → (s.device i).inUse = false
  mem_pgFree : ∀ p, p ∈ s.pgFree ↔ n ≤ p ∧ p < c.nPG
  mem_ccFree : ∀ e, e ∈ s.ccFree ↔ n ≤ e ∧ e < c.nCC

namespace FirstClaimed

variable {c : Cfg} {n : Nat} {s : State}

theorem resetOf (hcc : c.ccAvail = List.range c.nCC) (hpg : c.pgAvail = List.range c.nPG) :
    FirstClaimed c 0 (State.resetOf c) where
  cfg_eq := rfl
  dev_length := List.length_replicate
  claimed := fun i hi => absurd hi (Nat.not_lt_zero i)
  unused := fun i _ => by
    by_contra hu
    have hi : i < c.nDev := by simpa [State.resetOf] using State.lt_of_inUse (eq_true_of_ne_false hu)
    simp [State.device, State.resetOf, hi, Device.reset] at hu
  mem_pgFree := by simp [State.resetOf, hpg]
  mem_ccFree := by simp [State.resetOf, hcc]

/-- Every free channel is numbered `n` or more, so `n` is the least of each kind (R122). -/
theorem choice (h : FirstClaimed c n s) (hdev : n < c.nDev) (hpg : c.nDev ≤ c.nPG) (hcc : c.nDev ≤ c.nCC) :
    AllocChoice s n n n := by
  have hge : ∀ p ∈ s.pgFree, n ≤ p := fun p hp => ((h.mem_pgFree p).1 hp).1
  have hfirst : ∀ j < n, (s.device j).inUse = true := fun j hj => (h.claimed j hj).1
  refine ⟨⟨h.cfg_eq ▸ hdev, h.unused n le_rfl, hfirst⟩, ⟨?_, ?_, fun q hq _ => hge q hq⟩, ?_, ?_⟩
  · exact (h.mem_pgFree n).2 ⟨le_rfl, hdev.trans_le hpg⟩
  · exact (lt_or_ge n s.cfg.pgpb).imp_right fun hbank q hq => hbank.trans (hge q hq)
  · exact (h.mem_ccFree n).2 ⟨le_rfl, hdev.trans_le hcc⟩
  · exact fun q hq => ((h.mem_ccFree q).1 hq).1

/-- The claim of slot `n` with the channels numbered `n`. -/
theorem claim (h : FirstClaimed c n s) (hdev : n < c.nDev) (r : Result) :
    FirstClaimed c (n + 1) (done (s.claim n n n) r) := by
  have hself : (done (s.claim n n n) r).device n = Device.allocated s.cfg n n s.freeIx :=
    State.claim_device_self (h.dev_length ▸ hdev)
  have hne : ∀ i, n ≠ i → (done (s.claim n n n) r).device i = s.device i := fun i hi => State.claim_device_ne hi
  constructor
  case cfg_eq => exact h.cfg_eq
  case dev_length => exact (List.length_set ..).trans h.dev_length
  case claimed =>
    intro i hi
    obtain hlt | rfl := Nat.lt_succ_iff_lt_or_eq.1 hi
    · rw [hne i hlt.ne']
      exact h.claimed i hlt
    · rw [hself]
      exact ⟨rfl, rfl, rfl⟩
  case unused =>
    intro i hi
    rw [hne i (Nat.ne_of_lt hi)]
    exact h.unused i (Nat.le_of_succ_le hi)
  case mem_pgFree =>
    intro p
    have hmem : p ∈ (done (s.claim n n n) r).pgFree ↔ p ∈ s.pgFree ∧ p ≠ n := by simp [done, State.claim]
    rw [hmem, h.mem_pgFree]
    omega
  case mem_ccFree =>
    intro e
    have hmem : e ∈ (done (s.claim n n n) r).ccFree ↔ e ∈ s.ccFree ∧ e ≠ n := by simp [done, State.claim]
    rw [hmem, h.mem_ccFree]
    omega

/-- `k` more allocations return the next `k` handles and claim their slots. -/
theorem results_alloc (hpg : c.nDev ≤ c.nPG) (hcc : c.nDev ≤ c.nCC) (k : Nat) (h : FirstClaimed c n s)
    (hk : n + k ≤ c.nDev) :
    ∃ t, results (List.replicate k .alloc) s =
        some ((List.range' n k).map fun i => won (BitVec.ofNat 32 i) 0#32, t) ∧ FirstClaimed c (n + k) t := by
  induction k generalizing n s with
  | zero => exact ⟨s, rfl, h⟩
  | succ k ih =>
    have hdev : n < c.nDev := by omega
    obtain ⟨t, hrun, ht⟩ := ih (h.claim hdev (won (BitVec.ofNat 32 n) 0#32)) (by omega)
    refine ⟨t, ?_, by rwa [Nat.add_right_comm] at ht⟩
    simp only [List.replicate_succ, results, exec_alloc, allocCmd_of_choice (h.choice hdev hpg hcc), hrun]
    rfl

end FirstClaimed

/-- Settles O24: NDEV allocations claim every slot, in order, and then none is unused. -/
theorem allocExhaustsAtDeviceCount : Obligations.AllocExhaustsAtDeviceCount := by
  intro c _ hccAvail hpgAvail hpg hcc
  obtain ⟨s, hrun, hs⟩ := (FirstClaimed.resetOf hccAvail hpgAvail).results_alloc hpg hcc c.nDev (Nat.zero_add _).le
  rw [Nat.zero_add] at hs
  rw [← List.range_eq_range'] at hrun
  refine ⟨s, hrun, hs.claimed, allocFailsWhole s (.inl fun i hi => ?_)⟩
  obtain ⟨hu, -⟩ := hs.claimed i (hs.cfg_eq ▸ hi)
  exact hu

/-! ## The program registration (R125 to R127) -/

theorem withHandle_of_claimed {s : State} {h : Byte} (hh : Claimed s h) (body : Nat → State × Result) :
    withHandle h s body = body h.toNat :=
  if_pos ((validHandle_iff s h).2 hh)

/-- The variant by pin order, and the lower pin (R125). -/
theorem twoWireChoice_eq (dirPin stepPin : Byte) :
    twoWireChoice dirPin stepPin =
      (if stepPin.toNat < dirPin.toNat then .twoWire else .twoWireReversed,
        BitVec.ofNat 8 (min stepPin.toNat dirPin.toNat)) := by
  unfold twoWireChoice
  split_ifs with hlt
  · simp [min_eq_left hlt.le]
  · simp [min_eq_right (Nat.le_of_not_lt hlt)]

/-- Settles O25: with the handle claimed each command is its body, whose branches are the rule's. -/
theorem configRegistersOneProgramOnce : Obligations.ConfigRegistersOneProgramOnce := by
  intro s h dirPin stepPin basePin clkdiv hh d
  have hconfig2 (pin : Byte) := exec_of_simple (i := .config2 h dirPin pin clkdiv) rfl s
  have hconfig4 := exec_of_simple (i := .config4 h basePin clkdiv) rfl s
  simp only [handlerCommand, config2Cmd, config4Cmd, withHandle_of_claimed hh] at hconfig2 hconfig4
  refine ⟨fun hfree hpins => ?_, fun hfree => ?_, fun hset => ⟨?_, ?_⟩, ?_⟩
  · rw [hconfig2, if_neg (ne_true_of_eq_false hfree), if_neg hpins, twoWireChoice_eq]
    rfl
  · rw [hconfig4, if_neg (ne_true_of_eq_false hfree)]
    rfl
  · rw [hconfig2, if_pos hset]
    rfl
  · rw [hconfig4, if_pos hset]
    rfl
  · rw [hconfig2, if_pos rfl, ite_self]
    rfl

end Sys2Proof.Machine

/-! # The encoder

The exact `s2d` is one floor over the rationals (`Cfg.s2d_eq_floor`); its properties and those of the inverses follow.
A device's field reads as the field table says (`field_of_mem_fieldTable`), and GET answers it (`exec_get_of_field`). -/

/-! ## The exact rates (41_encoder.md R150 to R152) -/

namespace Sys2Proof

open Sys2Proof.Claims

theorem value_pos {r : Rate} (hn : 0 < r.num) (hd : 0 < r.den) : 0 < value r :=
  div_pos (Nat.cast_pos.2 hn) (Nat.cast_pos.2 hd)

/-- `10·MAXRATE / r`, the period of which `s2d` takes the floor. -/
def Cfg.period (c : Cfg) (r : Rate) : ℚ := 10 * (c.maxRate : ℚ) / value r

theorem Cfg.period_nonneg (c : Cfg) (r : Rate) : 0 ≤ c.period r := by
  unfold Cfg.period value
  positivity

variable {c : Cfg}

theorem Cfg.s2d_exact (hex : c.numerics = .exact) (r : Rate) :
    c.s2d r = 10 * c.maxRate * r.den / r.num - 10 := by
  simp only [Cfg.s2d, hex, Cfg.exactS2d]

theorem Cfg.d2s_exact (hex : c.numerics = .exact) (d : Nat) : c.d2s d = ⟨10 * c.maxRate, d + 10⟩ := by
  simp only [Cfg.d2s, hex, Cfg.exactD2s]

theorem Cfg.project_exact (hex : c.numerics = .exact) (v a : Rate) : c.project v a = c.exactProject v a := by
  simp only [Cfg.project, hex]

/-- The division of naturals is the floor of the rational quotient. -/
theorem Cfg.s2d_eq_floor (hex : c.numerics = .exact) (r : Rate) : c.s2d r = ⌊c.period r⌋₊ - 10 := by
  have hquot : c.period r = ((10 * c.maxRate * r.den : ℕ) : ℚ) / (r.num : ℕ) := by
    rw [Cfg.period, value, div_div_eq_mul_div]
    push_cast
    rfl
  rw [Cfg.s2d_exact hex, hquot, Nat.floor_div_eq_div]

theorem Cfg.s2d_eq_floor_max (hex : c.numerics = .exact) (r : Rate) :
    (c.s2d r : ℤ) = ⌊max (c.period r - 10) 0⌋ := by
  rw [← Int.natCast_floor_eq_floor (le_max_right _ _), Nat.floor_mono.map_max, Nat.floor_zero, Nat.max_zero,
    Nat.floor_sub_ofNat, Cfg.s2d_eq_floor hex]

theorem Cfg.period_anti {r t : Rate} (hr : 0 < value r) (h : value r ≤ value t) : c.period t ≤ c.period r :=
  div_le_div_of_nonneg_left (by positivity) hr h

theorem Cfg.s2d_anti (hex : c.numerics = .exact) {r t : Rate} (hr : 0 < value r) (h : value r ≤ value t) :
    c.s2d t ≤ c.s2d r := by
  rw [Cfg.s2d_eq_floor hex, Cfg.s2d_eq_floor hex]
  exact Nat.sub_le_sub_right (Nat.floor_mono (Cfg.period_anti hr h)) 10

/-- At MAXRATE and above the period is at most 10 (R150). -/
theorem Cfg.s2d_eq_zero (hex : c.numerics = .exact) {r : Rate} (hr : 0 < value r) (h : (c.maxRate : ℚ) ≤ value r) :
    c.s2d r = 0 := by
  have hperiod : c.period r ≤ (10 : ℕ) := by
    rw [Cfg.period, div_le_iff₀ hr]
    push_cast
    linarith
  rw [Cfg.s2d_eq_floor hex, Nat.sub_eq_zero_of_le (Nat.floor_le_of_le hperiod)]

theorem Cfg.value_d2s (hex : c.numerics = .exact) (d : Nat) :
    value (c.d2s d) = 10 * (c.maxRate : ℚ) / ((d : ℚ) + 10) := by
  rw [Cfg.d2s_exact hex, value]
  push_cast
  rfl

/-- Settles O30: each formula is the model's quotient read over the rationals. -/
theorem exactRatesAreTheFormulas : Obligations.ExactRatesAreTheFormulas := by
  intro c hex hmax
  have hmax_pos : (0 : ℚ) < c.maxRate := Nat.cast_pos.2 hmax
  refine ⟨fun r _ _ => Cfg.s2d_eq_floor_max hex r, fun n _ => ?integer,
    fun r t hn hd _ _ => Cfg.s2d_anti hex (value_pos hn hd), fun r hn hd => Cfg.s2d_eq_zero hex (value_pos hn hd),
    fun d => ⟨?speed, Cfg.value_d2s hex d, ?positive⟩, fun v a hvnum hvden haden => ?project⟩
  case integer => rw [Cfg.s2d_exact hex, Nat.mul_one, Nat.max_zero]
  case speed =>
    rw [Cfg.value_d2s hex]
    field_simp
  case positive =>
    rw [Cfg.value_d2s hex]
    positivity
  case project =>
    rw [Cfg.project_exact hex]
    simp only [Cfg.exactProject, value]
    push_cast
    field_simp

/-! ## The converters as inverses (R157) -/

theorem Cfg.s2d_d2s (hex : c.numerics = .exact) (hmax : 1 ≤ c.maxRate) (d : Nat) : c.s2d (c.d2s d) = d := by
  rw [Cfg.d2s_exact hex, Cfg.s2d_exact hex, Nat.mul_div_cancel_left _ (by omega), Nat.add_sub_cancel]

/-- Up to MAXRATE the period is at least 10, so that the subtraction of 10 is undone (R157). -/
theorem Cfg.value_d2s_s2d (hex : c.numerics = .exact) {r : Rate} (hr : 0 < value r) (h : value r ≤ c.maxRate) :
    10 ≤ ⌊c.period r⌋₊ ∧ value (c.d2s (c.s2d r)) = 10 * (c.maxRate : ℚ) / (⌊c.period r⌋₊ : ℚ) := by
  have hperiod : ((10 : ℕ) : ℚ) ≤ c.period r := by
    rw [Cfg.period, le_div_iff₀ hr]
    push_cast
    linarith
  have hfloor : 10 ≤ ⌊c.period r⌋₊ := Nat.le_floor hperiod
  refine ⟨hfloor, ?_⟩
  rw [Cfg.value_d2s hex, Cfg.s2d_eq_floor hex, Nat.cast_sub hfloor, Nat.cast_ofNat, sub_add_cancel]

theorem Cfg.value_le_div_iff {r : Rate} (hr : 0 < value r) {q : ℚ} (hq : 0 < q) :
    value r ≤ 10 * (c.maxRate : ℚ) / q ↔ q ≤ c.period r := le_div_comm₀ hr hq

theorem Cfg.div_eq_value_iff {r : Rate} (hr : 0 < value r) {q : ℚ} (hq : 0 < q) :
    10 * (c.maxRate : ℚ) / q = value r ↔ q = c.period r := by
  rw [Cfg.period, div_eq_iff hq.ne', eq_div_iff hr.ne', mul_comm q, eq_comm]

/-- Settles O31: up to MAXRATE the rate is `10·MAXRATE` over its period, and what comes back is `10·MAXRATE` over the
period's floor. -/
theorem inexactInverses : Obligations.InexactInverses := by
  intro c hex hmax
  refine ⟨Cfg.s2d_d2s hex hmax, fun r hn hd hle => ?_, fun r hn hd hlt => ⟨?_, hlt⟩⟩
  · have hr := value_pos hn hd
    obtain ⟨hten, hback⟩ := Cfg.value_d2s_s2d hex hr hle
    have hfloor : (0 : ℚ) < (⌊c.period r⌋₊ : ℚ) := Nat.cast_pos.2 (by omega)
    rw [hback, Cfg.value_le_div_iff hr hfloor, Cfg.div_eq_value_iff hr hfloor]
    refine ⟨Nat.floor_le (c.period_nonneg r), fun h => ⟨_, h.symm⟩, ?_⟩
    rintro ⟨n, hperiod : c.period r = n⟩
    rw [hperiod, Nat.floor_natCast]
  · rw [Cfg.s2d_eq_zero hex (value_pos hn hd) hlt.le, Cfg.value_d2s hex]
    norm_num

end Sys2Proof

/-! ## The setters (R142 to R149) -/

namespace Sys2Proof.Machine

open Sys2Proof.Claims

/-- Settles O26: each body writes its field, and the recomputed control word is the one of R90. -/
theorem fieldSettersWriteOneField : Obligations.FieldSettersWriteOneField := by
  intro s h dir en rate pos hh d
  simp only [controlWord, ← encodeControl_eq_ofNat]
  refine ⟨?_, ?_, ?_, ?_⟩
  · rw [exec_of_simple rfl, handlerCommand, setDirCmd, withHandle_of_claimed hh]
    rfl
  · rw [exec_of_simple rfl, handlerCommand, setEnCmd, withHandle_of_claimed hh]
    rfl
  · rw [exec_of_simple rfl, handlerCommand, setAccelCmd, withHandle_of_claimed hh]
    rfl
  · rw [exec_of_simple rfl, handlerCommand, setPosCmd, withHandle_of_claimed hh]
    rfl

/-- Settles O27: the range is checked before the clamp. -/
theorem setDelayRejectsThenClamps : Obligations.SetDelayRejectsThenClamps := by
  intro s h v hh
  refine ⟨fun hv => ?_, fun hv => exec_setDelay hh hv⟩
  have hrange : delayLimit ≤ v.toNat := hv
  rw [exec_of_simple rfl, handlerCommand, setDelayCmd, withHandle_of_claimed hh, if_pos hrange]
  rfl

/-- The rates the speed setters refuse (R148). -/
theorem badSpeed_iff (c : Cfg) (rate : Word) :
    Cfg.badSpeed c rate = true ↔ rate = 0#32 ∨ 2 ^ 30 ≤ c.s2d ⟨rate.toNat, 1⟩ := by
  rw [Cfg.badSpeed, Bool.or_eq_true, beq_iff_eq, decide_eq_true_eq]
  rfl

/-- Settles O28: both setters make the same check. -/
theorem speedSettersCheckTheDelay : Obligations.SpeedSettersCheckTheDelay := by
  intro s h rate hh d
  have hmin := exec_of_simple (i := .setMinspd h rate) rfl s
  have hmax := exec_of_simple (i := .setMaxspd h rate) rfl s
  simp only [handlerCommand, setMinspdCmd, setMaxspdCmd, withHandle_of_claimed hh] at hmin hmax
  refine ⟨fun hbad => ?_, fun hne hlt => ?_⟩
  · rw [hmin, hmax, if_pos ((badSpeed_iff s.cfg rate).2 hbad), if_pos ((badSpeed_iff s.cfg rate).2 hbad)]
    exact ⟨rfl, rfl⟩
  · have hgood : ¬Cfg.badSpeed s.cfg rate = true := by
      rw [badSpeed_iff, not_or, Nat.not_le]
      exact ⟨hne, hlt⟩
    rw [hmin, hmax, if_neg hgood, if_neg hgood]
    exact ⟨rfl, rfl⟩

/-! ## The converters (R153, R154) -/

/-- `10·MAXRATE` fits a word (00_scope.md R7). -/
theorem Cfg.ten_maxRate_lt {c : Cfg} (h : c.ok = true) : 10 * c.maxRate < 2 ^ 32 := by
  simp only [Cfg.ok, Bool.and_eq_true, decide_eq_true_eq] at h
  obtain ⟨-, -, -, -, -, -, -, -, -, hmax, -⟩ := h
  omega

theorem wordOf_toNat {n : Nat} (h : n < 2 ^ 32) : (wordOf n).toNat = n :=
  (BitVec.toNat_ofNat n 32).trans (Nat.mod_eq_of_lt h)

theorem exec_spd2dly {w : Word} (hw : w ≠ 0#32) (s : State) :
    exec (.spd2dly w) s = .next (done s (won (wordOf (s.cfg.s2d ⟨w.toNat, 1⟩)) 0#32)) := by
  rw [exec_of_simple rfl, handlerCommand, spd2dlyCmd, if_neg hw]
  rfl

theorem exec_dly2spd {w : Word} (hw : w.toNat < 2 ^ 30) (s : State) :
    exec (.dly2spd w) s = .next (done s (won (wordOf (10 * s.cfg.maxRate / (w.toNat + 10)))
      (wordOf (10 * s.cfg.maxRate % (w.toNat + 10))))) := by
  have hrange : ¬delayLimit ≤ w.toNat := Nat.not_le.2 hw
  rw [exec_of_simple rfl, handlerCommand, dly2spdCmd, if_neg hrange]
  rfl

/-- Settles O29: no quotient or remainder of `10·MAXRATE` is cut to a word. -/
theorem convertersReturnExactDivisions : Obligations.ConvertersReturnExactDivisions := by
  intro s w hc
  have hmax := Cfg.ten_maxRate_lt hc
  refine ⟨rfl, fun hw => exec_spd2dly hw s, fun hw hex => ⟨_, exec_spd2dly hw s, ?_⟩, fun hw => ?_, fun hw =>
    ⟨_, _, exec_dly2spd hw s, ?_⟩⟩
  · rw [Cfg.s2d_exact hex, Nat.mul_one]
    exact wordOf_toNat (((Nat.sub_le _ _).trans (Nat.div_le_self _ _)).trans_lt hmax)
  · have hrange : delayLimit ≤ w.toNat := hw
    rw [exec_of_simple rfl, handlerCommand, dly2spdCmd, if_pos hrange]
    rfl
  · rw [wordOf_toNat ((Nat.div_le_self _ _).trans_lt hmax), wordOf_toNat ((Nat.mod_le _ _).trans_lt hmax)]
    exact ⟨(Nat.div_add_mod' _ _).symm, Nat.mod_lt _ (Nat.succ_pos _)⟩

/-! ## GET (R155, 30_encoding.md R104) -/

theorem okValue_wordOfBool (b : Bool) :
    Result.okValue (wordOfBool b) = won (BitVec.ofNat 32 b.toNat) (BitVec.ofNat 32 0) := by cases b <;> rfl

theorem ofNat_toNat_word (w : Word) : BitVec.ofNat 32 w.toNat = w :=
  (BitVec.ofNat_toNat 32 w).trans (BitVec.setWidth_eq w)

theorem okValue_word (w : Word) : Result.okValue w = won (BitVec.ofNat 32 w.toNat) (BitVec.ofNat 32 0) :=
  congrArg (won · 0#32) (ofNat_toNat_word w).symm

/-- The 64-bit numerator, low word first. -/
theorem ok2_halves (w : BitVec 64) :
    Result.ok2 (w.extractLsb' 0 32) (w.extractLsb' 32 32) =
      won (BitVec.ofNat 32 (w.toNat % 2 ^ 32)) (BitVec.ofNat 32 (w.toNat / 2 ^ 32)) := by
  have hlow : w.extractLsb' 0 32 = BitVec.ofNat 32 (w.toNat % 2 ^ 32) := BitVec.eq_of_toNat_eq (by simp)
  have hhigh : w.extractLsb' 32 32 = BitVec.ofNat 32 (w.toNat / 2 ^ 32) :=
    BitVec.eq_of_toNat_eq (by simp [Nat.shiftRight_eq_div_pow])
  rw [hlow, hhigh]
  rfl

theorem accelDir_word (a : AccelDir) :
    a.word = BitVec.ofNat 32 (match a with | .down => 2 ^ 32 - 1 | .coast => 0 | .up => 1) := by cases a <;> rfl

/-- The tag is shifted clear of the kind, so that the two add. -/
theorem callback_word_user (tag : Byte) : (Callback.user tag).word = BitVec.ofNat 32 (2 + 256 * tag.toNat) := by
  have htag := tag.isLt
  have hor : tag.toNat <<< 8 ||| 2 = 2 + 256 * tag.toNat := by
    rw [← Nat.shiftLeft_add_eq_or_of_lt (by decide), Nat.shiftLeft_eq]
    omega
  have hfits : tag.toNat % 4294967296 = tag.toNat := Nat.mod_eq_of_lt (by omega)
  apply BitVec.eq_of_toNat_eq
  simp [Callback.word, ← hor, hfits]

theorem callback_word (cb : Callback) :
    cb.word = BitVec.ofNat 32 (match cb with | .none => 0 | .ramp => 1 | .user tag => 2 + 256 * tag.toNat) := by
  cases cb with
  | none => rfl
  | ramp => rfl
  | user tag => exact callback_word_user tag

theorem speedResult_eq (speed : Option Word) :
    speedResult speed =
      won (BitVec.ofNat 32 ((speed.map BitVec.toNat).getD 0)) (BitVec.ofNat 32 speed.isSome.toNat) := by
  cases speed with
  | none => rfl
  | some rate => exact congrArg (won · 1#32) (ofNat_toNat_word rate).symm

/-- Every entry of the field table is what the device answers. -/
theorem field_of_mem_fieldTable (d : Device) :
    ∀ e ∈ fieldTable d, d.field e.1 = some (won (BitVec.ofNat 32 e.2.1) (BitVec.ofNat 32 e.2.2)) := by
  simp only [fieldTable, List.forall_mem_append, List.forall_mem_cons]
  exact ⟨⟨congrArg some (okValue_wordOfBool d.enabled),
    congrArg some (okValue_wordOfBool d.direction),
    congrArg some (okValue_word d.delay),
    congrArg some (okValue_word d.command),
    congrArg some (okValue_word d.position),
    congrArg some (okValue_wordOfBool d.running),
    congrArg some (okValue_word d.acceleration),
    congrArg some (ok2_halves d.movAccNum),
    congrArg some (okValue_word d.movAccDen), List.forall_mem_nil _⟩,
    congrArg (some <| Result.okValue ·) (accelDir_word d.accelDir),
    congrArg some (okValue_word d.coastingSlices),
    congrArg (some <| Result.okValue ·) (callback_word d.callback),
    congrArg some (okValue_wordOfBool d.configured),
    congrArg some (speedResult_eq d.minSpeed),
    congrArg some (speedResult_eq d.maxSpeed), List.forall_mem_nil _⟩

theorem field_of_mem_numberTable (d : Device) :
    ∀ e ∈ numberTable d, d.field e.1 = some (won (fieldWord e.2) 0#32) := by
  simp only [numberTable, List.forall_mem_cons]
  exact ⟨rfl, rfl, rfl, List.forall_mem_nil _⟩

theorem field_eq_none (d : Device) {field : Byte} (h : 0x11 < field.toNat) : d.field field = none := by
  unfold Device.field
  split
  case h_19 => rfl
  all_goals omega

theorem globalField_eq_none (s : State) {field : Byte} (h : 0x82 < field.toNat) : s.globalField field = none := by
  unfold State.globalField
  split
  case h_4 => rfl
  all_goals omega

/-- GET below the global identifiers answers what the device does. -/
theorem exec_get_device {s : State} {h field : Byte} (hh : Claimed s h) (hf : field.toNat < 0x80) :
    exec (.get h field) s = .next (done s (((s.device h.toNat).field field).getD (lost 6#8))) := by
  rw [exec_of_simple rfl, handlerCommand, getCmd, if_neg (Nat.not_le.2 hf), withHandle_of_claimed hh]
  cases (s.device h.toNat).field field <;> rfl

/-- GET of a field the device has: its identifier is below the global ones. -/
theorem exec_get_of_field {s : State} {h field : Byte} {r : Result} (hh : Claimed s h)
    (hr : (s.device h.toNat).field field = some r) : exec (.get h field) s = .next (done s r) := by
  have hf : field.toNat < 0x80 := by
    by_contra hge
    rw [field_eq_none _ (by omega)] at hr
    cases hr
  rw [exec_get_device hh hf, hr, Option.getD_some]

/-- GET of a global identifier with a device, or of an unknown one. -/
theorem exec_get_global_refused {s : State} {h field : Byte} (hf : 0x80 ≤ field.toNat)
    (hno : h ≠ 0#8 ∨ s.globalField field = none) :
    exec (.get h field) s = .next (done s (lost 6#8)) := by
  rw [exec_of_simple rfl, handlerCommand, getCmd, if_pos hf]
  cases hg : s.globalField field with
  | none => rfl
  | some w =>
    have hne : h ≠ 0#8 := hno.resolve_right (by simp [hg])
    simp only [if_neg hne]
    rfl

/-- Settles O32: a device's identifier reads the device's field, a global one the global word. -/
theorem getReadsTheFieldTable : Obligations.GetReadsTheFieldTable := by
  refine ⟨fun s h hh => ⟨fun e he => ?_, fun e he => ⟨fieldWord e.2, ?_, fieldWord_of_lt⟩, fun field hlo hhi => ?_⟩,
    fun s => ⟨rfl, rfl, rfl, fun h field hf hno => ?_⟩⟩
  · exact exec_get_of_field hh (field_of_mem_fieldTable _ e he)
  · exact exec_get_of_field hh (field_of_mem_numberTable _ e he)
  · rw [exec_get_device hh hhi, field_eq_none _ hlo, Option.getD_none]
  · exact exec_get_global_refused hf (hno.imp_right (globalField_eq_none s))

end Sys2Proof.Machine

/-! # The ramp stack

A push and a pop on a claimed slot, said once each; the law of R176 is an induction over the values pushed, each push
and its pop around the commands between them (`results_push_pop`). -/

namespace Sys2Proof.Machine

open Sys2Proof.Claims

/-! ## STK_PUSH and STK_POP on a claimed slot (42_ramp_stack.md R171 to R175) -/

theorem stackFull_iff (c : Cfg) (stack : List Word) :
    c.stackFull stack = true ↔ ∃ n ∈ c.stackDepth, n ≤ stack.length := by
  unfold Cfg.stackFull
  cases c.stackDepth <;> simp

/-- The ramp stack of slot `i` has room for `k` more values. -/
abbrev HasRoom (s : State) (i k : Nat) : Prop := ∀ n ∈ s.cfg.stackDepth, (s.device i).stack.length + k ≤ n

theorem HasRoom.not_full {s : State} {i k : Nat} (h : HasRoom s i (k + 1)) :
    s.cfg.stackFull (s.device i).stack = false := by
  rw [← Bool.not_eq_true, stackFull_iff]
  rintro ⟨n, hn, hle⟩
  have := h n hn
  omega

/-- A push where there is room writes the slot's stack and nothing else. -/
theorem push_of_room {s : State} {i k : Nat} (h : HasRoom s i (k + 1)) (v : Word) :
    s.push i v = s.setDevice i { s.device i with stack := (s.device i).stack ++ [v] } := by
  rw [State.push, h.not_full]
  rfl

/-- A push takes the room of one value. -/
theorem HasRoom.push {s : State} {i k : Nat} (hi : i < s.dev.length) (h : HasRoom s i (k + 1)) (v : Word) :
    HasRoom (s.push i v) i k := by
  intro n hn
  rw [push_of_room h] at hn ⊢
  have hlen := h n hn
  rw [State.device_setDevice_self hi, List.length_append, List.length_singleton]
  omega

theorem lt_of_claimed {s : State} {h : Byte} (hh : Claimed s h) : h.toNat < s.dev.length := by
  obtain ⟨-, -, hu⟩ := hh
  exact State.lt_of_inUse hu

/-- A push leaves every claim as it was. -/
theorem claimed_push {s : State} {h : Byte} (hh : Claimed s h) (i : Nat) (v : Word) (r : Result) :
    Claimed (done (s.push i v) r) h := by
  obtain ⟨hne, hlt, hu⟩ := hh
  obtain ⟨-, hpush⟩ | ⟨-, hpush⟩ := push_cases s i v
  · exact hpush ▸ ⟨hne, hlt, hu⟩
  · have hkept := State.device_setDevice_congr (s := s) (i := i)
      (d := { s.device i with stack := (s.device i).stack ++ [v] }) Device.inUse rfl h.toNat
    exact hpush ▸ ⟨hne, hlt, hkept.trans hu⟩

theorem exec_stkPush {s : State} {h : Byte} {v : Word} (hh : Claimed s h) (hv : v.toNat < 2 ^ 30) :
    exec (.stkPush h v) s = .next (done (s.push h.toNat v) (won 0#32 0#32)) := by
  have hrange : ¬delayLimit ≤ v.toNat := Nat.not_le.2 hv
  rw [exec_of_simple rfl, handlerCommand, stkPushCmd, withHandle_of_claimed hh, if_neg hrange]
  rfl

theorem pop_of_append {s : State} {i : Nat} {l : List Word} {r : Word} (h : (s.device i).stack = l ++ [r]) :
    s.pop i = (some r, withDev s i { s.device i with stack := l }) := by
  rw [State.pop, State.modDevice, h, List.getLast?_concat, List.dropLast_concat]
  rfl

theorem pop_of_nil {s : State} {i : Nat} (h : (s.device i).stack = []) : s.pop i = (none, s) := by
  have hsame : { s.device i with stack := (s.device i).stack.dropLast } = s.device i := by
    rw [h, List.dropLast_nil, ← h]
  rw [State.pop, State.modDevice, hsame, s.setDevice_device, h, List.getLast?_nil]

theorem exec_stkPop_of_some {s t : State} {h : Byte} {v : Word} (hh : Claimed s h)
    (hpop : s.pop h.toNat = (some v, t)) : exec (.stkPop h) s = .next (done t (won v 0#32)) := by
  rw [exec_of_simple rfl, handlerCommand, stkPopCmd, withHandle_of_claimed hh, hpop]
  rfl

theorem exec_stkPop_of_empty {s : State} {h : Byte} (hh : Claimed s h) (hempty : (s.device h.toNat).stack = []) :
    exec (.stkPop h) s = .next (done s (won 0xFFFFFFFF#32 1#32)) := by
  rw [exec_of_simple rfl, handlerCommand, stkPopCmd, withHandle_of_claimed hh, pop_of_nil hempty]
  rfl

/-- Settles O33: the range is checked before the room, and the room decides what a push does. -/
theorem stackCommandsPushAndPop : Obligations.StackCommandsPushAndPop := by
  intro s h v hh d
  refine ⟨fun hv => ?_, fun hv hroom => ?_, fun hv hfull => ?_,
    fun l r hstack => exec_stkPop_of_some hh (pop_of_append hstack), exec_stkPop_of_empty hh⟩
  · have hrange : delayLimit ≤ v.toNat := hv
    rw [exec_of_simple rfl, handlerCommand, stkPushCmd, withHandle_of_claimed hh, if_pos hrange]
    rfl
  · rw [exec_stkPush hh hv, push_of_room (k := 0) hroom]
    rfl
  · rw [exec_stkPush hh hv, State.push, if_pos ((stackFull_iff _ _).2 hfull)]
    rfl

/-! ## Last in, first out (R176) -/

theorem results_concat {is : List Instr} {rs : List Result} {i : Instr} {s t u : State}
    (hrun : results is s = some (rs, t)) (hlast : exec i t = .next u) :
    results (is ++ [i]) s = some (rs ++ [u.result], u) := by
  induction is generalizing s rs with
  | nil =>
    cases hrun
    simp [results, hlast]
  | cons j is ih =>
    rw [results] at hrun
    split at hrun
    next s' hfirst =>
      obtain ⟨⟨rs', t'⟩, htail, heq⟩ := Option.map_eq_some_iff.1 hrun
      cases heq
      simp [results, hfirst, ih htail]
    all_goals cases hrun

/-- A push where there is room, commands that leave what it wrote but for the result, and a pop: the pop returns the
value pushed, and all of them leave the state but for the result. -/
theorem results_push_pop {s : State} {h : Byte} {v : Word} {is : List Instr} {rs : List Result} {r : Result} {k : Nat}
    (hh : Claimed s h) (hv : v.toNat < 2 ^ 30) (hroom : HasRoom s h.toNat (k + 1))
    (hrun : results is (done (s.push h.toNat v) (won 0#32 0#32)) = some (rs, done (s.push h.toNat v) r)) :
    results (.stkPush h v :: is ++ [.stkPop h]) s =
      some (won 0#32 0#32 :: rs ++ [won v 0#32], done s (won v 0#32)) := by
  have hpush : results (.stkPush h v :: is) s = some (won 0#32 0#32 :: rs, done (s.push h.toNat v) r) := by
    simp only [results, exec_stkPush hh hv, hrun]
    rfl
  have hpop : (done (s.push h.toNat v) r).pop h.toNat = (some v, done s r) :=
    congrArg (Prod.map id (done · r)) (pop_push (lt_of_claimed hh) hroom.not_full)
  exact results_concat hpush (exec_stkPop_of_some (claimed_push hh ..) hpop)

/-- Values pushed where there is room for all of them come back last in, first out, and leave the state but for the
result. -/
theorem results_pushes_pops {h : Byte} (vs : List Word) {s : State} {v : Word} (hh : Claimed s h)
    (hvs : ∀ w ∈ v :: vs, w.toNat < 2 ^ 30) (hroom : HasRoom s h.toNat (v :: vs).length) :
    results ((v :: vs).map (.stkPush h) ++ List.replicate (v :: vs).length (.stkPop h)) s =
      some (List.replicate (v :: vs).length (won 0#32 0#32) ++ (v :: vs).reverse.map (won · 0#32),
        done s (won v 0#32)) := by
  induction vs generalizing s v with
  | nil => exact results_push_pop (is := []) hh (hvs v List.mem_cons_self) hroom rfl
  | cons w vs ih =>
    obtain ⟨hv, hrest⟩ := List.forall_mem_cons.1 hvs
    have hinner := ih (claimed_push hh h.toNat v (won 0#32 0#32)) hrest (hroom.push (lt_of_claimed hh) v)
    have hrun := results_push_pop hh hv hroom hinner
    simpa [List.replicate_succ' (a := Instr.stkPop h), List.replicate_succ (a := won 0#32 0#32)] using hrun

/-- Settles O34: the law of R176 for three values and for one. -/
theorem stackIsLastInFirstOut : Obligations.StackIsLastInFirstOut := by
  refine ⟨fun s h a b c hh ha hb hc hroom => ?_, fun s h hh hempty => ?_, fun s h v hh hv hroom => ?_⟩
  · have hrange : ∀ w ∈ [a, b, c], w.toNat < 2 ^ 30 := by
      simp only [List.forall_mem_cons]
      exact ⟨ha, hb, hc, List.forall_mem_nil _⟩
    exact results_pushes_pops [b, c] hh hrange hroom
  · simp only [results, exec_stkPop_of_empty hh hempty]
    rfl
  · exact results_pushes_pops [] hh (List.forall_mem_singleton.2 hv) hroom

end Sys2Proof.Machine

/-! # A command with one device

Such a command writes its device's slot or arms its device's burst (`OneDevice`); nothing else of the machine moves but
the port, the sequencer's state, the fault word and the counter of the free values. -/

namespace Sys2Proof.Machine

open Sys2Proof.Claims

theorem SlotOnly.pop (s : State) (i : Nat) : SlotOnly i s (s.pop i).2 :=
  modDevice s i fun d => { d with stack := d.stack.dropLast }

theorem SlotOnly.clearStack (s : State) (i : Nat) : SlotOnly i s (s.clearStack i) :=
  modDevice s i fun d => { d with stack := [] }

/-- What a command with the one device `i` writes besides the port and the sequencer's state. -/
inductive OneDevice (i : Nat) (s : State) : State → Prop
  | slot {t : State} (h : SlotOnly i s t) : OneDevice i s t
  | arms (n : Nat) (cb : Callback) : OneDevice i s (s.armed i n cb)

namespace OneDevice

theorem refl (i : Nat) (s : State) : OneDevice i s s := .slot (.refl i s)

theorem modDevice (s : State) (i : Nat) (f : Device → Device) : OneDevice i s (s.modDevice i f) :=
  .slot (.modDevice s i f)

/-- What a command answers is no write. -/
theorem answers {i : Nat} {s t : State} (h : OneDevice i s t) (r : Result) : OneDevice i s (t, r).1 := h

/-- A failing check touches nothing. -/
theorem check {i : Nat} {s : State} {r : Result} {out : State × Result} {p : Prop} [Decidable p]
    (h : OneDevice i s out.1) : OneDevice i s (if p then (s, r) else out).1 := by
  split_ifs
  · exact refl i s
  · exact h

/-- The body of a command is given the slot of its handle (60_exceptions.md R268). -/
theorem withHandle {h : Byte} {s : State} {body : Nat → State × Result} (hb : ∀ i, OneDevice i s (body i).1) :
    OneDevice h.toNat s (withHandle h s body).1 := by
  obtain ⟨-, he⟩ | ⟨-, he⟩ := withHandle_cases h s body
  · exact he ▸ hb h.toNat
  · exact he ▸ refl ..

theorem moveAsyncCmd (dev : Byte) (steps : Word) (cb : Callback) (s : State) :
    OneDevice dev.toNat s (moveAsyncCmd dev steps cb s).1 :=
  withHandle fun i => by
    split
    next hburst =>
      obtain ⟨-, -, -, rfl⟩ := (startBurst_ok_iff ..).1 hburst
      exact .arms ..
    next => exact refl ..

/-- A command with one device in handler context (60_exceptions.md R279). -/
theorem handlerCommand {i : Instr} {h : Byte} (hi : handleOf i = some h) (s : State) :
    OneDevice h.toNat s (handlerCommand i s).1 := by
  cases i with
  | alloc | spd2dly | dly2spd | moveMulti => cases hi
  | get =>
    simp only [Machine.handlerCommand, getCmd_state]
    exact refl ..
  | setDir | setEn | setAccel | setPos =>
    cases hi
    exact withHandle fun _ => answers (modDevice ..) _
  | config2 =>
    cases hi
    exact withHandle fun _ => check (check (answers (modDevice ..) _))
  | config4 | setMinspd | setMaxspd =>
    cases hi
    exact withHandle fun _ => check (answers (modDevice ..) _)
  | setDelay =>
    cases hi
    exact withHandle fun _ => check (answers (.slot (.setDelay ..)) _)
  | stkPush =>
    cases hi
    exact withHandle fun _ => check (answers (.slot (.push ..)) _)
  | stkPop =>
    cases hi
    exact withHandle fun i => by
      have hpop : OneDevice i s (s.pop i).2 := .slot (.pop s i)
      split <;> next h => rwa [h] at hpop
  | moveAsyncNone | moveAsyncRamp | moveAsyncUser =>
    cases hi
    exact moveAsyncCmd ..
  | moveBlock | waitIdle | moveTo => exact refl ..

/-! ## The prologues -/

theorem beginMoveTo (s : State) (i : Nat) (target minSpeed : Word) :
    OneDevice i s (s.beginMoveTo i target minSpeed) :=
  .slot ((((SlotOnly.modDevice ..).trans (.setDelay ..)).trans (.modDevice ..)).trans (.clearStack ..))

theorem moveToPrologue {dev : Byte} {target : Word} {s t : State} {q : Seq}
    (h : moveToPrologue dev target s = .starts t q) : OneDevice dev.toNat s t := by
  unfold Machine.moveToPrologue at h
  dsimp only at h
  split at h
  · cases h
  split at h
  · cases h
  split at h
  · split_ifs at h
    cases h
    exact beginMoveTo ..
  · cases h

theorem moveBlockPrologue {dev : Byte} {dir : Bool} {steps startDelay delayStep : Word} {s t : State} {q : Seq}
    (h : moveBlockPrologue dev dir steps startDelay delayStep s = .starts t q) : OneDevice dev.toNat s t := by
  unfold Machine.moveBlockPrologue at h
  dsimp only at h
  split_ifs at h
  cases h
  exact modDevice ..

theorem waitIdlePrologue {dev : Byte} {s t : State} {q : Seq} (h : waitIdlePrologue dev s = .starts t q) :
    OneDevice dev.toNat s t := by
  unfold Machine.waitIdlePrologue at h
  split_ifs at h
  cases h
  exact refl ..

end OneDevice

/-- `t` is `u` but for the port and the sequencer's state (10_state.md R45, R46). -/
def PortOnly (u t : State) : Prop := ∃ q b r, t = { u with seq := q, cmdBusy := b, result := r }

/-- A command that starts the sequencer writes at its acceptance what its prologue does, besides the port. -/
theorem OneDevice.macroCommand {i : Nat} {s t : State} {out : Prologue}
    (hout : ∀ u q, out = .starts u q → OneDevice i s u) (h : macroCommand s out = .next t) :
    ∃ u, OneDevice i s u ∧ PortOnly u t := by
  cases out with
  | ends r =>
    cases h
    exact ⟨s, .refl i s, _, _, _, rfl⟩
  | starts u q =>
    cases h
    exact ⟨u, hout u q rfl, _, _, _, rfl⟩

/-- A command with one device at its acceptance in thread context. -/
theorem exec_oneDevice {i : Instr} {h : Byte} {s t : State} (hi : handleOf i = some h) (hx : exec i s = .next t) :
    ∃ u, OneDevice h.toNat s u ∧ PortOnly u t := by
  cases hm : i.isMacro with
  | false =>
    rw [exec_of_simple hm] at hx
    cases hx
    exact ⟨_, .handlerCommand hi s, _, _, _, rfl⟩
  | true =>
    cases i
    case moveBlock =>
      cases hi
      exact OneDevice.macroCommand (fun _ _ => .moveBlockPrologue) hx
    case waitIdle =>
      cases hi
      exact OneDevice.macroCommand (fun _ _ => .waitIdlePrologue) hx
    case moveTo =>
      cases hi
      exact OneDevice.macroCommand (fun _ _ => .moveToPrologue) hx
    case moveMulti => cases hi
    all_goals cases hm

/-- Settles O35: neither a write of the device's slot, nor its burst, nor the port is what another device has. -/
theorem oneDeviceCommandsTouchOneDevice : Obligations.OneDeviceCommandsTouchOneDevice := by
  intro s t i h j hi hx hj
  obtain ⟨u, hu, q, b, r, rfl⟩ := exec_oneDevice hi hx
  cases hu with
  | slot hslot =>
    have hdev := hslot.device_ne hj.symm
    obtain ⟨d, f, n, rfl⟩ := hslot
    exact ⟨hdev, rfl, rfl, rfl, rfl, rfl, rfl, rfl, fun _ _ => rfl⟩
  | arms n cb =>
    exact ⟨State.device_setDevice_ne hj.symm, rfl, rfl, rfl, rfl, rfl, rfl, rfl,
      fun c hc => State.xferOf_setXfer_ne hc.symm⟩

end Sys2Proof.Machine

/-! # No command cancels a transfer

An edit arms only idle slots and claims only free channels, so it leaves the transfer of an armed channel
(`Edit.xferOf_eq`). A dispatch takes the flags first and serves them after; the channels it still owes keep the ledger
that says so (`Owed`). -/

namespace Sys2Proof.Machine

open Sys2Proof.Safety

/-! ## Armed transfers under an edit -/

/-- An idle claimed slot's channel is not armed, so that arming a burst there leaves the armed channels
(43_step_engine.md R186). -/
theorem Ledger.xferOf_armed {s : State} {i n c : Nat} {cb : Callback} (hs : Ledger s) (hu : (s.device i).inUse = true)
    (hr : (s.device i).running = false) (ha : (s.xferOf c).active = true) : (s.armed i n cb).xferOf c = s.xferOf c := by
  obtain ⟨hidle, -, -⟩ := runningExact_of_idle (hs.exact hu) hr
  exact State.xferOf_setXfer_ne fun hc => by simp [hc, ha] at hidle

/-- A free channel is not armed, so that a claim leaves the armed channels (40_registry.md R121). -/
theorem Ledger.xferOf_claim {s : State} {i p d c : Nat} (hs : Ledger s) (hd : d ∈ s.ccFree)
    (ha : (s.xferOf c).active = true) : (s.claim i p d).xferOf c = s.xferOf c := by
  obtain ⟨-, hnone, -⟩ := hs.of_free hd
  exact State.claim_xferOf_ne fun hc => by simp [hc, hs.slotOf_of_active ha] at hnone

theorem Edit.xferOf_eq {k : Scope} {s t : State} {c : Nat} (h : Edit k s t) (hs : Ledger s)
    (ha : (s.xferOf c).active = true) : t.xferOf c = s.xferOf c := by
  cases h with
  | outside h => exact State.eq_of_bare h fun u => u.xferOf c
  | write | raise => rfl
  | arm hu hr => exact hs.xferOf_armed (hu hs.sequencer) hr ha
  | claim _ _ _ _ hc => exact hs.xferOf_claim hc ha

theorem Edits.xferOf_eq {k : Scope} {s t : State} {c : Nat} (h : Edits k s t) (hs : Ledger s)
    (ha : (s.xferOf c).active = true) : t.xferOf c = s.xferOf c :=
  (h.preserve (p := fun u => Ledger u ∧ u.xferOf c = s.xferOf c)
    (fun he ⟨hu, hx⟩ => ⟨he.ledger hu, (he.xferOf_eq hu (hx ▸ ha)).trans hx⟩) ⟨hs, rfl⟩).2

/-! ## Armed transfers over a command, a sequencer step, a dispatch -/

theorem Accepted.xferOf_eq {k : Scope} {s t : State} {c : Nat} (h : Accepted k s t) (hs : Ledger s)
    (ha : (s.xferOf c).active = true) : t.xferOf c = s.xferOf c := by
  cases h with
  | ends h | starts h => exact (h.xferOf_eq hs ha :)
  | block => rfl

theorem Accepted.pulses_eq {k : Scope} {s t : State} (h : Accepted k s t) :
    t.pgq = s.pgq ∧ t.pulseLog = s.pulseLog := by
  cases h with
  | ends h | starts h =>
    obtain ⟨-, -, -, hpgq, hlog⟩ := State.still_inj.1 h.still_eq
    exact ⟨hpgq, hlog⟩
  | block => exact ⟨rfl, rfl⟩

theorem Sequenced.xferOf_eq {s t : State} {c : Nat} (h : Sequenced s t) (hs : Ledger s)
    (ha : (s.xferOf c).active = true) : t.xferOf c = s.xferOf c := by
  cases h with
  | goes h => exact (h.xferOf_eq hs ha :)
  | pushes | ends | drains => rfl

/-- A word written to a queue is appended (20_memory.md R73). -/
theorem State.queue_prefix_writePGQ (s : State) (i : Nat) (w : Word) (p : Nat) :
    s.queue p <+: (s.writePGQ i w).queue p := by
  rw [State.writePGQ]
  by_cases hp : (s.device i).pgChan = p
  · subst hp
    by_cases hlt : (s.device i).pgChan < s.pgq.length
    · rw [State.queue_setQueue_self hlt]
      exact List.prefix_append _ _
    · rw [State.setQueue, List.set_eq_of_length_le (Nat.le_of_not_lt hlt)]
  · rw [State.queue_setQueue_ne hp]

theorem Sequenced.queue_prefix {s t : State} (h : Sequenced s t) (p : Nat) : s.queue p <+: t.queue p := by
  cases h with
  | @goes u q h =>
    obtain ⟨-, -, -, hpgq, -⟩ := State.still_inj.1 h.still_eq
    have hqueue : (u.setSeq q).queue p = s.queue p := congrArg (fun q => q.getD p []) hpgq
    exact hqueue ▸ List.prefix_refl _
  | @pushes i w => exact s.queue_prefix_writePGQ i w p
  | ends | drains => exact List.prefix_refl _

theorem Sequenced.pulseLog_eq {s t : State} (h : Sequenced s t) : t.pulseLog = s.pulseLog := by
  cases h with
  | goes h =>
    obtain ⟨-, -, -, -, hlog⟩ := State.still_inj.1 h.still_eq
    exact hlog
  | pushes | ends | drains => rfl

/-- What a dispatch owes once it has taken the flags (60_exceptions.md R275). -/
theorem Ledger.owed {s : State} (hs : Ledger s) :
    Owed (channelsIn s.pending s.cfg.nCC) { s with irqFlags := s.irqFlags &&& ~~~s.pending } := by
  rw [hs.pending_eq]
  refine ⟨BitVec.and_not_self .., s.irqFlags, fun c => ?_, hs⟩
  rw [channelsIn, List.mem_filter, List.mem_range]
  refine ⟨fun hf => ⟨?_, hf⟩, fun hf => hf.2⟩
  obtain ⟨i, hi⟩ := hs.slotOf_of_flag hf
  obtain ⟨-, hmap, -⟩ := hs.sized
  exact hmap ▸ State.lt_of_slotOf hi

/-- Serving a flagged channel leaves the armed ones: the fall of `running` writes no transfer, and what the callback does
are edits. -/
theorem Owed.xferOf_completeChannel {c e : Nat} {l : List Nat} {s : State} (hs : Owed (c :: l) s)
    (ha : (s.xferOf e).active = true) : (Machine.completeChannel s c).xferOf e = s.xferOf e := by
  obtain ⟨-, f, hf, hledger⟩ := hs
  have hc : f.getLsbD c = true := (hf c).2 (by simp)
  obtain ⟨i, hi⟩ := hledger.slotOf_of_flag hc
  obtain ⟨hnone, -⟩ | ⟨j, hj, hedits⟩ := completeChannel_cases s c
  · cases hnone.symm.trans hi
  obtain rfl : i = j := Option.some.inj (hi.symm.trans hj)
  exact (hedits.withFlags (f &&& ~~~bitAt c)).xferOf_eq (hledger.complete hi hc) ha

theorem Owed.xferOf_dispatch {e : Nat} {l : List Nat} (hnd : l.Nodup) {s : State} (hs : Owed l s)
    (ha : (s.xferOf e).active = true) : (l.foldl Machine.completeChannel s).xferOf e = s.xferOf e := by
  induction l generalizing s with
  | nil => rfl
  | cons c l ih =>
    have hx := hs.xferOf_completeChannel ha
    exact (ih (List.nodup_cons.1 hnd).2 (hs.completeChannel hnd) (hx ▸ ha)).trans hx

theorem Ledger.xferOf_dispatchStep {s t : State} {c : Nat} (hs : Ledger s) (h : dispatchStep s = some t)
    (ha : (s.xferOf c).active = true) : t.xferOf c = s.xferOf c := by
  obtain ⟨-, rfl⟩ := (dispatchStep_some_iff s t).1 h
  exact hs.owed.xferOf_dispatch (List.nodup_range.filter _) ha

/-- Settles O18: an acceptance, a sequencer step and a dispatch are edits, of which none writes an armed channel, a
queue or a log, and at most one push. -/
theorem noCommandCancelsATransfer : Obligations.NoCommandCancelsATransfer := by
  intro s t hinv armedStay
  have hs : Ledger s := ((inv_iff s).1 hinv).1
  refine ⟨fun i h => ?_, fun h => ?_, fun h => ?_⟩
  · have hacc := exec_cases h
    exact ⟨fun c => hacc.xferOf_eq hs, hacc.pulses_eq⟩
  · obtain ⟨-, hseq⟩ := sequencerStep_cases h
    have hlength : t.pgq.length = s.pgq.length := congrArg Shape.pgq (sequencerStep_shape h)
    exact ⟨fun c => hseq.xferOf_eq hs, hseq.queue_prefix, hlength, hseq.pulseLog_eq⟩
  · obtain ⟨-, -, -, hpgq, hlog⟩ := State.still_inj.1 (dispatchStep_still h)
    exact ⟨fun c => hs.xferOf_dispatchStep h, hpgq, hlog⟩

end Sys2Proof.Machine

/-! # The step engine

The commands and the sequencer states of MOVE_ASYNC, MOVE_BLOCK and the waits, each by the branch its operands choose,
and the two events of a burst. A burst and a MOVE_BLOCK whose words are consumed as they come are then the same round
repeated: a word is written to an empty queue and pulsed (`run_emit`). -/

namespace Sys2Proof.Machine

open Sys2Proof.Safety Sys2Proof.Claims

/-! ## MOVE_ASYNC (R186 to R188) -/

/-- Whatever its callback, MOVE_ASYNC is one simple command (R186). -/
theorem exec_moveAsync (h : Byte) (steps : Word) (cb : Callback) (s : State) :
    exec (moveAsync h steps cb) s = simpleCommand (moveAsyncCmd h steps cb s) := by
  cases cb <;> rfl

/-- MOVE_ASYNC that arms its burst succeeds. -/
theorem exec_moveAsync_of_ok {s t : State} {h : Byte} {steps : Word} {cb : Callback} (hh : Claimed s h)
    (ht : s.startBurst h.toNat steps.toNat cb = .ok t) :
    exec (moveAsync h steps cb) s = .next (done t (won 0#32 0#32)) := by
  rw [exec_moveAsync, moveAsyncCmd, withHandle_of_claimed hh]
  simp only [ht]
  rfl

/-- A refused MOVE_ASYNC is a complete no-op (R188). -/
theorem exec_moveAsync_of_error {s : State} {h : Byte} {steps : Word} {cb : Callback} {e : ErrorKind}
    (hh : Claimed s h) (he : s.startBurst h.toNat steps.toNat cb = .error e) :
    exec (moveAsync h steps cb) s = .next (done s (lost e.code)) := by
  rw [exec_moveAsync, moveAsyncCmd, withHandle_of_claimed hh]
  simp only [he]
  rfl

/-- Settles O36: the four answers of arming a burst. -/
theorem moveAsyncArmsOrIsNoOp : Obligations.MoveAsyncArmsOrIsNoOp := by
  intro s h steps cb hh d
  refine ⟨fun hc hr hn => ?_, fun hc => ?_, fun hc hr => ?_, fun hc hr => ?_⟩
  · have hpos : steps.toNat ≠ 0 := fun h0 => hn (BitVec.eq_of_toNat_eq h0)
    rw [exec_moveAsync_of_ok hh ((startBurst_ok_iff ..).2 ⟨hc, hr, hpos, rfl⟩)]
    simp only [wordOf, BitVec.ofNat_toNat, BitVec.setWidth_eq]
    rfl
  · exact exec_moveAsync_of_error hh ((startBurst_error_iff ..).2 (.inl ⟨hc, rfl⟩))
  · exact exec_moveAsync_of_error hh ((startBurst_error_iff ..).2 (.inr (.inl ⟨hc, hr, rfl⟩)))
  · exact exec_moveAsync_of_error hh ((startBurst_error_iff ..).2 (.inr (.inr ⟨hc, hr, rfl, rfl⟩)))

/-! ## BEAT and PULSE (R190, R206) -/

theorem State.queueFull_iff (s : State) (p : Nat) : s.queueFull p = true ↔ s.cfg.qDepth ≤ (s.queue p).length :=
  decide_eq_true_iff

theorem State.queueFull_eq_false {s : State} {p : Nat} (h : (s.queue p).length < s.cfg.qDepth) :
    s.queueFull p = false :=
  decide_eq_false (Nat.not_le.2 h)

theorem beatStep_eq_none_iff (c : Nat) (s : State) :
    beatStep c s = none ↔
      (s.xferOf c).active = false ∨ s.cfg.qDepth ≤ (s.queue (s.device (s.xferOf c).slot).pgChan).length := by
  rw [Option.eq_none_iff_forall_ne_some, ← State.queueFull_iff]
  cases hactive : (s.xferOf c).active <;> cases hfull : s.queueFull (s.device (s.xferOf c).slot).pgChan <;>
    simp [beatStep_some_iff, hactive, hfull]

/-- An enabled beat: the word written, the count, and with the last beat the flag. -/
theorem beatStep_of_room {c : Nat} {s : State} (ha : (s.xferOf c).active = true)
    (hroom : (s.queue (s.device (s.xferOf c).slot).pgChan).length < s.cfg.qDepth) :
    beatStep c s = some { s with
      pgq := s.pgq.set (s.device (s.xferOf c).slot).pgChan
        (s.queue (s.device (s.xferOf c).slot).pgChan ++ [(s.device (s.xferOf c).slot).command])
      xfer := s.xfer.set c
        ⟨(s.xferOf c).count - 1#32, decide ((s.xferOf c).count ≠ 1#32), (s.xferOf c).slot⟩
      irqFlags := if (s.xferOf c).count = 1#32 then s.irqFlags ||| bitAt c else s.irqFlags } := by
  refine (beatStep_some_iff c s _).2 ⟨ha, State.queueFull_eq_false hroom, ?_⟩
  by_cases hlast : (s.xferOf c).count = 1#32
  · simp only [hlast, if_true]
    rfl
  · simp only [hlast, if_false, ne_eq, not_false_eq_true, decide_true]
    rfl

/-- Settles O37: when each event is enabled and what it writes. -/
theorem beatAndPulseMoveOneWord : Obligations.BeatAndPulseMoveOneWord := by
  refine ⟨fun s c => ⟨beatStep_eq_none_iff c s, fun ha _ hroom => ?_⟩,
    fun s p => ⟨fun hq => ?_, fun w rest hq => ?_⟩⟩
  · rw [beatStep_of_room ha hroom, bitAt_eq_ofNat]
  · rw [pulseStep, hq]
  · exact (pulseStep_some_iff p s _).2 ⟨w, rest, hq, rfl⟩

/-! ## MOVE_BLOCK (R192 to R195) -/

/-- Settles O40: the checks of the prologue in their order. -/
theorem moveBlockChecksThenStarts : Obligations.MoveBlockChecksThenStarts := by
  intro s h dir steps start delta hh
  have hv : s.validHandle h = true := (validHandle_iff s h).2 hh
  have hexec : exec (.moveBlock h dir steps start delta) s =
      macroCommand s (moveBlockPrologue h dir steps start delta s) := rfl
  rw [hexec, moveBlockPrologue, if_neg (by simp [hv])]
  refine ⟨fun hc => ?_, fun hc hr => ?_, fun hc hr (hd : delayLimit ≤ start.toNat) => ?_, fun hc hr hd => ?_⟩
  · rw [if_pos (by simp [hc])]
    rfl
  · rw [if_neg (by simp [hc]), if_pos hr]
    rfl
  · rw [if_neg (by simp [hc]), if_neg (by simp [hr]), if_pos hd]
    rfl
  · have hrange : ¬delayLimit ≤ start.toNat := Nat.not_le.2 hd
    rw [if_neg (by simp [hc]), if_neg (by simp [hr]), if_neg hrange]
    rfl

/-- A delay is in range or not, as the sequencer tests it (10_state.md R28). -/
theorem out_of_range_iff (v : Int) : (v < 0 ∨ (delayLimit : Int) ≤ v) ↔ ¬(0 ≤ v ∧ v < 2 ^ 30) := by
  have hlimit : (delayLimit : Int) = 2 ^ 30 := rfl
  rw [hlimit]
  omega

section Block

variable {s : State} {i k : Nat} {v delta : Int} {dir : Bool}

/-- A push waits while the queue is full (R193). -/
theorem sequencerStep_block_of_full (hs : s.seq = .block i (k + 1) v dir delta) (h0 : 0 ≤ v) (hv : v < 2 ^ 30)
    (hfull : s.cfg.qDepth ≤ (s.queue (s.device i).pgChan).length) : sequencerStep s = none := by
  have hrange : ¬(v < 0 ∨ (delayLimit : Int) ≤ v) := fun h => (out_of_range_iff v).1 h ⟨h0, hv⟩
  simp only [sequencerStep, hs, blockStep, if_neg hrange, if_pos ((s.queueFull_iff _).2 hfull)]

/-- A push appends the word of the current delay and adds the increment (R193). -/
theorem sequencerStep_block_of_room (hs : s.seq = .block i (k + 1) v dir delta) (h0 : 0 ≤ v) (hv : v < 2 ^ 30)
    (hroom : (s.queue (s.device i).pgChan).length < s.cfg.qDepth) :
    sequencerStep s = some { s with
      pgq := s.pgq.set (s.device i).pgChan (s.queue (s.device i).pgChan ++
        [controlWord (BitVec.ofNat 32 v.toNat) (Bool.xor dir s.cfg.dirPol) (s.device i).enabled])
      seq := .block i k (v + delta) dir delta } := by
  have hrange : ¬(v < 0 ∨ (delayLimit : Int) ≤ v) := fun h => (out_of_range_iff v).1 h ⟨h0, hv⟩
  simp only [sequencerStep, hs, blockStep, if_neg hrange, State.queueFull_eq_false hroom, controlWord,
    ← encodeControl_eq_ofNat]
  rfl

/-- A ramp out of range is a fault (R194). -/
theorem sequencerStep_block_of_range (hs : s.seq = .block i (k + 1) v dir delta) (hv : v < 0 ∨ 2 ^ 30 ≤ v) :
    sequencerStep s = some { s with fault := s.fault ||| 8#32, seq := .blockDrain i (lost 4#8) } := by
  have hrange : v < 0 ∨ (delayLimit : Int) ≤ v := (out_of_range_iff v).2 (by omega)
  simp only [sequencerStep, hs, blockStep, if_pos hrange]
  rfl

/-- With no word left the queue is drained (R195). -/
theorem sequencerStep_block_zero (hs : s.seq = .block i 0 v dir delta) :
    sequencerStep s = some { s with seq := .blockDrain i (won 0#32 0#32) } := by
  simp only [sequencerStep, hs, blockStep]
  rfl

end Block

/-- The drain waits while the queue holds a word (R195). -/
theorem sequencerStep_blockDrain_of_ne_nil {s : State} {i : Nat} {r : Result} (hs : s.seq = .blockDrain i r)
    (hq : s.queue (s.device i).pgChan ≠ []) : sequencerStep s = none := by
  simp only [sequencerStep, hs, blockDrainStep, List.isEmpty_iff, if_neg hq]

/-- The drain of an empty queue ends the command, and `running` falls (R195). -/
theorem sequencerStep_blockDrain_of_nil {s : State} {i : Nat} {r : Result} (hs : s.seq = .blockDrain i r)
    (hq : s.queue (s.device i).pgChan = []) :
    sequencerStep s = some (finished (withDev s i { s.device i with running := false }) r) := by
  simp only [sequencerStep, hs, blockDrainStep, List.isEmpty_iff, if_pos hq]
  rfl

/-- Settles O41: the sequencer state, the range of the delay and the room choose the step. -/
theorem moveBlockSequencerSteps : Obligations.MoveBlockSequencerSteps :=
  ⟨fun _ _ _ _ _ _ hs h0 hv => ⟨sequencerStep_block_of_full hs h0 hv, sequencerStep_block_of_room hs h0 hv⟩,
    fun _ _ _ _ _ _ hs hv => sequencerStep_block_of_range hs hv, fun _ _ _ _ _ hs => sequencerStep_block_zero hs,
    fun _ _ _ hs => ⟨sequencerStep_blockDrain_of_ne_nil hs, sequencerStep_blockDrain_of_nil hs⟩⟩

/-! ## The waits (R196, R197, R224; 45_multi_axis.md R247, R249) -/

theorem exec_waitIdle {s : State} {h : Byte} (hh : Claimed s h) :
    exec (.waitIdle h) s = .next (started s (.waitIdle h.toNat)) := by
  have hv : s.validHandle h = true := (validHandle_iff s h).2 hh
  simp only [exec, execWaitIdle, waitIdlePrologue, hv, if_true]
  rfl

theorem sequencerStep_waitIdle {s : State} {i : Nat} (hs : s.seq = .waitIdle i) :
    sequencerStep s = if (s.device i).running = true then none else some (finished s (won 0#32 0#32)) := by
  simp only [sequencerStep, hs, waitIdleStep]
  rfl

theorem sequencerStep_toWait {s : State} {i k rem half : Nat} {ph : Phase} (hs : s.seq = .toWait i ph k rem half) :
    sequencerStep s =
      if (s.device i).running = true then none else some { s with seq := .to i ph k rem half } := by
  simp only [sequencerStep, hs, toWaitStep]
  rfl

theorem sequencerStep_multiWait {s : State} {ctx : MultiCtx} {ph : Phase} {k j : Nat} {set : List Nat}
    (hs : s.seq = .multiWait ctx ph k j set) :
    sequencerStep s =
      if ∃ i ∈ set, (s.device i).running = true then none
      else some { s with seq := if j < ctx.axes.length then .multi ctx ph k j [] else afterSlice ctx ph k } := by
  simp only [sequencerStep, hs, multiWaitStep, List.any_eq_true]
  split_ifs <;> rfl

/-- Settles O43: each wait has one test, that of its devices, and one way on. -/
theorem waitsHaveOneWayOut : Obligations.WaitsHaveOneWayOut := by
  refine ⟨fun s h hh => exec_waitIdle hh, fun s i hs => ?_, fun s i k rem half ph hs => ?_,
    fun s ctx ph k j set hs => ?_⟩
  · rw [sequencerStep_waitIdle hs]
    exact ⟨fun hr => if_pos hr, fun hr => if_neg (ne_true_of_eq_false hr)⟩
  · rw [sequencerStep_toWait hs]
    exact ⟨fun hr => if_pos hr, fun hr => if_neg (ne_true_of_eq_false hr)⟩
  · rw [sequencerStep_multiWait hs]
    refine ⟨by simp, fun t ht => ?_⟩
    by_cases hrun : ∃ i ∈ set, (s.device i).running = true
    · simp [hrun] at ht
    rw [if_neg hrun] at ht
    obtain rfl := Option.some.inj ht
    refine ⟨rfl, fun hj => if_pos hj, fun hj hph => ?_, fun hj hph => ?_⟩
    · cases ph with
      | accel | decel => exact if_neg (Nat.not_lt.2 hj)
      | remainder => exact absurd rfl hph
    · subst hph
      exact if_neg (Nat.not_lt.2 hj)

/-! ## Words consumed as they come -/

/-- The machine is legal and channel `p` is one of its own, with nothing in its queue. -/
structure Flows (p : Nat) (s : State) : Prop where
  cfgOk : s.cfg.ok = true
  queue_lt : p < s.pgq.length
  log_lt : p < s.pulseLog.length
  empty : s.queue p = []

/-- Channel `p` has consumed the words `ws` more (10_state.md R49). -/
def State.emit (s : State) (p : Nat) (ws : List Word) : State :=
  { s with pulseLog := s.pulseLog.set p (s.log p ++ ws) }

theorem State.log_emit {s : State} {p : Nat} (hp : p < s.pulseLog.length) (ws : List Word) :
    (s.emit p ws).log p = s.log p ++ ws := by
  simp [State.log, State.emit, hp]

theorem State.emit_emit {s : State} {p : Nat} (hp : p < s.pulseLog.length) (ws ws' : List Word) :
    (s.emit p ws).emit p ws' = s.emit p (ws ++ ws') := by
  rw [State.emit, State.log_emit hp]
  simp [State.emit]

/-- Writing back what is read changes nothing. -/
theorem set_getD_self {α : Type} (l : List α) (p : Nat) (d : α) : l.set p (l.getD p d) = l := by
  by_cases hp : p < l.length
  · rw [List.getD_eq_getElem _ _ hp, List.set_getElem_self]
  · exact List.set_eq_of_length_le (Nat.le_of_not_lt hp)

@[simp] theorem State.emit_nil (s : State) (p : Nat) : s.emit p [] = s := by
  rw [State.emit, List.append_nil, State.log, set_getD_self]

/-- Flowing rests on the configuration, the queues and the number of logs. -/
theorem Flows.congr {p : Nat} {s t : State} (h : Flows p s) (hcfg : t.cfg = s.cfg := by rfl)
    (hpgq : t.pgq = s.pgq := by rfl) (hlog : t.pulseLog.length = s.pulseLog.length := by rfl) : Flows p t :=
  ⟨hcfg ▸ h.cfgOk, hpgq ▸ h.queue_lt, hlog ▸ h.log_lt, (congrArg (·.getD p []) hpgq).trans h.empty⟩

/-- A configuration that is legal leaves room in an empty queue (00_scope.md R7). -/
theorem Flows.room {p : Nat} {s : State} (h : Flows p s) : (s.queue p).length < s.cfg.qDepth := by
  have hc := h.cfgOk
  simp only [Cfg.ok, Bool.and_eq_true, decide_eq_true_eq] at hc
  obtain ⟨-, -, -, -, -, -, -, -, -, -, -, hdepth, -⟩ := hc
  rw [h.empty]
  exact hdepth

/-- A claimed slot's channel flows where the invariant holds and its queue is empty. -/
theorem flows_of_inv {s : State} {i : Nat} (hs : Inv s) (hu : (s.device i).inUse = true)
    (hq : s.queue (s.device i).pgChan = []) : Flows (s.device i).pgChan s := by
  obtain ⟨hdev, -, -, hpgq, hlog⟩ := hs.sized
  obtain ⟨-, hpg, -⟩ := hs.registry.slots i (hdev ▸ State.lt_of_inUse hu) hu
  exact ⟨hs.cfgOk, hpgq ▸ hpg, hlog ▸ hpg, hq⟩

/-! ## Runs -/

/-- The turn of an agent whose step is enabled (20_memory.md R80). -/
theorem run_succ_of_agentStep {s t : State} {a : Agent} {rest : List Agent} (hc : s.cfg.ok = true)
    (hs : s.schedule = a :: rest) (ha : agentStep a { s with schedule := rest } = some (.next t)) (k : Nat) :
    Sys2Proof.core.run (k + 1) s = Sys2Proof.core.run k t := by
  have hstep : Sys2Proof.core.step s = .next t := by simp [Sys2Proof.core, step, advance, hc, hs, ha]
  simp only [Host.Core.run, hstep]

theorem agentStep_sequencer {s t : State} (h : sequencerStep s = some t) : agentStep .sequencer s = some (.next t) :=
  congrArg (Option.map Host.Outcome.next) h

theorem agentStep_burst {s t : State} {c : Nat} (h : beatStep c s = some t) :
    agentStep (.burst c) s = some (.next t) :=
  congrArg (Option.map Host.Outcome.next) h

theorem agentStep_pulseGen {s t : State} {p : Nat} (h : pulseStep p s = some t) :
    agentStep (.pulseGen p) s = some (.next t) :=
  congrArg (Option.map Host.Outcome.next) h

/-- One round: the agent writes a word to the empty queue of channel `p`, doing what makes `u` of `s` besides, and the
pulse generator consumes it. -/
theorem run_emit {s u : State} {a : Agent} {p : Nat} {w : Word} {rest : List Agent} (hc : s.cfg.ok = true)
    (hu : Flows p u) (hs : s.schedule = a :: .pulseGen p :: rest)
    (ha : agentStep a { s with schedule := .pulseGen p :: rest } =
      some (.next { u with pgq := u.pgq.set p [w], schedule := .pulseGen p :: rest })) (k : Nat) :
    Sys2Proof.core.run (k + 2) s = Sys2Proof.core.run k ({ u with schedule := rest }.emit p [w]) := by
  have hlt := hu.queue_lt
  have hback : u.pgq.set p [] = u.pgq := by
    rw [← hu.empty]
    exact set_getD_self u.pgq p []
  rw [run_succ_of_agentStep hc hs ha]
  refine run_succ_of_agentStep (s := { u with pgq := u.pgq.set p [w], schedule := .pulseGen p :: rest }) hu.cfgOk rfl
    ?_ k
  have hpulse := (pulseStep_some_iff p { u with pgq := u.pgq.set p [w], schedule := rest } _).2
    ⟨w, [], by simp [State.queue, hlt], rfl⟩
  rw [agentStep_pulseGen hpulse]
  simp [State.setQueue, State.emit, State.log, hback]

/-! ## A burst (R191) -/

/-- The turns of `n` words written by agent `a`, each consumed by the pulse generator of channel `p`. -/
def rounds (a : Agent) (p n : Nat) : List Agent := (List.replicate n [a, .pulseGen p]).flatten

theorem rounds_succ (a : Agent) (p n : Nat) : rounds a p (n + 1) = a :: .pulseGen p :: rounds a p n := by
  simp [rounds, List.replicate_succ]

/-- Channel `c` is armed for `n` beats of slot `i`, whose control word is `w` and whose channel `p` flows. -/
structure Bursting (c p i : Nat) (w : Word) (n : Nat) (s : State) : Prop where
  xfer : s.xferOf c = ⟨BitVec.ofNat 32 n, true, i⟩
  pgChan : (s.device i).pgChan = p
  command : (s.device i).command = w
  flows : Flows p s

/-- What a beat of channel `c` writes besides the queue when it leaves `n` to come (R190). -/
def State.beaten (s : State) (c i n : Nat) : State :=
  { s with
    xfer := s.xfer.set c ⟨BitVec.ofNat 32 n, decide (n ≠ 0), i⟩
    irqFlags := if n = 0 then s.irqFlags ||| bitAt c else s.irqFlags }

/-- The state after the next beat of channel `c` and its pulse, with `n` beats to come. -/
def State.burstRound (s : State) (c p i : Nat) (w : Word) (n : Nat) : State :=
  { s.beaten c i n with schedule := rounds (.burst c) p n }.emit p [w]

/-- The state after all the beats of channel `c`, each with its pulse, have emitted `words`. -/
def State.burstDone (s : State) (c p i : Nat) (words : List Word) : State :=
  { s.beaten c i 0 with schedule := [] }.emit p words

namespace Bursting

variable {c p i n : Nat} {w : Word} {s : State}

theorem beatStep_eq (h : Bursting c p i w (n + 1) s) (hn : n + 1 < 2 ^ 32) :
    beatStep c s = some { s.beaten c i n with pgq := s.pgq.set p [w] } := by
  obtain ⟨hx, rfl, rfl, hf⟩ := h
  have hleft : BitVec.ofNat 32 (n + 1) - 1#32 = BitVec.ofNat 32 n := by simp [BitVec.ofNat_add]
  have hlast : BitVec.ofNat 32 (n + 1) = 1#32 ↔ n = 0 := by
    rw [← BitVec.toNat_inj, BitVec.toNat_ofNat, Nat.mod_eq_of_lt hn]
    simp
  have hbeat := beatStep_of_room (c := c) (s := s) (by rw [hx]) (by rw [hx]; exact hf.room)
  simp only [hx, hf.empty, hleft, hlast, ne_eq, List.nil_append] at hbeat
  exact hbeat

theorem run_round (h : Bursting c p i w (n + 1) s) (hn : n + 1 < 2 ^ 32)
    (hs : s.schedule = rounds (.burst c) p (n + 1)) (k : Nat) :
    Sys2Proof.core.run (k + 2) s = Sys2Proof.core.run k (s.burstRound c p i w n) := by
  refine run_emit (u := s.beaten c i n) h.flows.cfgOk h.flows.congr (hs.trans (rounds_succ ..)) ?_ k
  have hnext : Bursting c p i w (n + 1) { s with schedule := .pulseGen p :: rounds (.burst c) p n } :=
    ⟨h.xfer, h.pgChan, h.command, h.flows.congr⟩
  exact agentStep_burst (hnext.beatStep_eq hn)

/-- A beat that is not the last leaves the burst going on. -/
theorem next (h : Bursting c p i w (n + 2) s) : Bursting c p i w (n + 1) (s.burstRound c p i w (n + 1)) where
  xfer := State.xferOf_setXfer_self (State.lt_of_active (by rw [h.xfer]))
  pgChan := h.pgChan
  command := h.command
  flows := h.flows.congr (hlog := List.length_set)

/-- It leaves the end of the burst what it was, its own word emitted before the others. -/
theorem burstDone_burstRound (h : Bursting c p i w (n + 2) s) (words : List Word) :
    (s.burstRound c p i w (n + 1)).burstDone c p i words = s.burstDone c p i (w :: words) := by
  simp [State.burstRound, State.burstDone, State.beaten, State.emit, State.log, h.flows.log_lt]

theorem run_eq (h : Bursting c p i w (n + 1) s) (hn : n + 1 < 2 ^ 32)
    (hs : s.schedule = rounds (.burst c) p (n + 1)) :
    Sys2Proof.core.run (2 * (n + 1)) s = .next (s.burstDone c p i (List.replicate (n + 1) w)) := by
  induction n generalizing s with
  | zero => exact h.run_round hn hs 0
  | succ n ih =>
    rw [List.replicate_succ, ← h.burstDone_burstRound, ← ih h.next (by omega) rfl]
    exact h.run_round hn hs _

end Bursting

/-- Settles O38: the rounds of the burst, read off the state they end in. -/
theorem burstEmitsExactlyItsSteps : Obligations.BurstEmitsExactlyItsSteps := by
  intro s c n hs hfault hactive hcount hn hlt i p hq hsched
  obtain ⟨m, rfl⟩ := Nat.exists_eq_add_of_le' hn
  have hledger : Ledger s := ((inv_iff s).1 hs).1
  have hslot : s.slotOf c = some i := hledger.slotOf_of_active hactive
  obtain ⟨hu, hcc, -, -⟩ := hledger.of_slotOf hslot
  have hb : Bursting c p i (s.device i).command (m + 1) s :=
    ⟨by rw [← hcount, ← hactive], rfl, rfl, flows_of_inv hs hu hq⟩
  have hxfer : (s.burstDone c p i (List.replicate (m + 1) (s.device i).command)).xferOf c = ⟨0#32, false, i⟩ :=
    State.xferOf_setXfer_self (State.lt_of_active hactive)
  refine ⟨_, hb.run_eq hlt hsched, ?log, hq, ?flag, congrArg Xfer.active hxfer, congrArg Xfer.count hxfer, rfl,
    ?running, hfault⟩
  case log => exact State.log_emit hb.flows.log_lt _
  case flag =>
    change (s.irqFlags ||| bitAt c).getLsbD c = true
    simp [getLsbD_bitAt, hledger.lt_32_of_slotOf hslot]
  case running =>
    obtain ⟨hrun, -⟩ := hledger.exact hu
    exact hrun.2 (.inl (by rw [hcc, hactive]))

/-! ## A MOVE_BLOCK (R193, R195) -/

/-- The `n` words of a linear ramp from delay `v` on. -/
def rampWords (dir en : Bool) (delta v : Int) (n : Nat) : List Word :=
  (List.range n).map fun k : Nat => controlWord (BitVec.ofNat 32 (v + k * delta).toNat) dir en

theorem rampWords_succ (dir en : Bool) (delta v : Int) (n : Nat) :
    rampWords dir en delta v (n + 1) =
      controlWord (BitVec.ofNat 32 v.toNat) dir en :: rampWords dir en delta (v + delta) n := by
  have hshift : ∀ k : Nat, v + ((k : Int) + 1) * delta = v + delta + k * delta := fun k => by ring
  simp [rampWords, List.range_succ_eq_map, hshift]

/-- MOVE_BLOCK is in progress on slot `i`, whose channel `p` flows, with `n` words to come from delay `v` on. -/
structure Blocking (p i n : Nat) (v delta : Int) (dir : Bool) (s : State) : Prop where
  seq : s.seq = .block i n v dir delta
  pgChan : (s.device i).pgChan = p
  flows : Flows p s

/-- The state in which `words` have been pushed and consumed, with `n` to come from delay `v` on. -/
def State.pushed (s : State) (p i n : Nat) (v delta : Int) (dir : Bool) (agents : List Agent) (words : List Word) :
    State :=
  { s with seq := .block i n v dir delta, schedule := agents }.emit p words

theorem State.pushed_pushed {s : State} {p : Nat} (hp : p < s.pulseLog.length) (i n m : Nat) (v v' delta : Int)
    (dir : Bool) (agents agents' : List Agent) (words words' : List Word) :
    (s.pushed p i n v delta dir agents words).pushed p i m v' delta dir agents' words' =
      s.pushed p i m v' delta dir agents' (words ++ words') :=
  State.emit_emit (s := { s with seq := .block i m v' dir delta, schedule := agents' }) hp words words'

/-- The ramp is in range at its first word, and from its second on. -/
theorem ramp_range_succ {n : Nat} {v delta : Int}
    (h : ∀ k < n + 1, 0 ≤ v + (k : Nat) * delta ∧ v + k * delta < 2 ^ 30) :
    (0 ≤ v ∧ v < 2 ^ 30) ∧ ∀ k < n, 0 ≤ v + delta + (k : Nat) * delta ∧ v + delta + k * delta < 2 ^ 30 := by
  refine ⟨by simpa using h 0 (Nat.succ_pos n), fun k hk => ?_⟩
  have hshift : v + delta + k * delta = v + ((k + 1 : Nat) : Int) * delta := by push_cast; ring
  rw [hshift]
  exact h (k + 1) (Nat.succ_lt_succ hk)

namespace Blocking

variable {p i n : Nat} {v delta : Int} {dir : Bool} {s : State} {agents : List Agent}

theorem next (h : Blocking p i (n + 1) v delta dir s) (agents : List Agent) (words : List Word) :
    Blocking p i n (v + delta) delta dir (s.pushed p i n (v + delta) delta dir agents words) where
  seq := rfl
  pgChan := h.pgChan
  flows := h.flows.congr (hlog := List.length_set)

theorem sequencerStep_eq (h : Blocking p i (n + 1) v delta dir s) (h0 : 0 ≤ v) (hv : v < 2 ^ 30) :
    sequencerStep s = some { s with
      pgq := s.pgq.set p [controlWord (BitVec.ofNat 32 v.toNat) (Bool.xor dir s.cfg.dirPol) (s.device i).enabled]
      seq := .block i n (v + delta) dir delta } := by
  obtain ⟨hseq, rfl, hf⟩ := h
  rw [sequencerStep_block_of_room hseq h0 hv hf.room, hf.empty, List.nil_append]

/-- A push and its pulse. -/
theorem run_round (h : Blocking p i (n + 1) v delta dir s) (h0 : 0 ≤ v) (hv : v < 2 ^ 30)
    (hs : s.schedule = .sequencer :: .pulseGen p :: agents) (k : Nat) :
    Sys2Proof.core.run (k + 2) s = Sys2Proof.core.run k (s.pushed p i n (v + delta) delta dir agents
      [controlWord (BitVec.ofNat 32 v.toNat) (Bool.xor dir s.cfg.dirPol) (s.device i).enabled]) := by
  refine run_emit (u := { s with seq := .block i n (v + delta) dir delta }) h.flows.cfgOk h.flows.congr hs
    ?_ k
  have hnext : Blocking p i (n + 1) v delta dir { s with schedule := .pulseGen p :: agents } :=
    ⟨h.seq, h.pgChan, h.flows.congr⟩
  exact agentStep_sequencer (hnext.sequencerStep_eq h0 hv)

/-- The whole ramp, each word consumed as it comes. -/
theorem run_ramp (h : Blocking p i n v delta dir s)
    (hv : ∀ k < n, 0 ≤ v + (k : Nat) * delta ∧ v + k * delta < 2 ^ 30)
    (hs : s.schedule = rounds .sequencer p n ++ agents) (k : Nat) :
    Sys2Proof.core.run (2 * n + k) s = Sys2Proof.core.run k (s.pushed p i 0 (v + n * delta) delta dir agents
      (rampWords (Bool.xor dir s.cfg.dirPol) (s.device i).enabled delta v n)) := by
  induction n generalizing s v with
  | zero =>
    have hdone : s.pushed p i 0 (v + (0 : Nat) * delta) delta dir agents [] = s := by
      simp [State.pushed, ← h.seq, ← show s.schedule = agents from hs]
    rw [Nat.mul_zero, Nat.zero_add]
    exact congrArg _ hdone.symm
  | succ n ih =>
    obtain ⟨⟨h0, hlt⟩, hv⟩ := ramp_range_succ hv
    have hlast : v + ((n + 1 : Nat) : Int) * delta = v + delta + n * delta := by push_cast; ring
    have hround := h.run_round h0 hlt (hs.trans (congrArg (· ++ agents) (rounds_succ ..))) (2 * n + k)
    have hcount : 2 * (n + 1) + k = 2 * n + k + 2 := by omega
    rw [hcount, rampWords_succ, hlast]
    refine hround.trans ((ih (h.next _ _) hv rfl).trans (congrArg _ ?_))
    exact State.pushed_pushed h.flows.log_lt ..

/-- With no word left the queue is found empty and the command ends, `running` falling with it (R195). -/
theorem run_end (h : Blocking p i 0 v delta dir s) (hs : s.schedule = [.sequencer, .sequencer]) :
    Sys2Proof.core.run 2 s = .next (finished
      (withDev { s with schedule := [] } i { s.device i with running := false }) (won 0#32 0#32)) := by
  obtain ⟨hseq, rfl, hf⟩ := h
  have hdrain := sequencerStep_block_zero (s := { s with schedule := [.sequencer] }) hseq
  have hend := sequencerStep_blockDrain_of_nil (i := i) (r := won 0#32 0#32)
    (s := { s with seq := .blockDrain i (won 0#32 0#32), schedule := [] }) rfl hf.empty
  rw [run_succ_of_agentStep hf.cfgOk hs (agentStep_sequencer hdrain)]
  exact run_succ_of_agentStep (s := { s with seq := .blockDrain i (won 0#32 0#32), schedule := [.sequencer] }) hf.cfgOk
    rfl (agentStep_sequencer hend) 0

end Blocking

/-- Settles O42: the ramp, then the two steps that end the command. -/
theorem moveBlockStreamsTheLinearRamp : Obligations.MoveBlockStreamsTheLinearRamp := by
  intro s i n v delta dir hs hfault hu hseq hv p hq hsched
  have hb : Blocking p i n v delta dir s := ⟨hseq, rfl, flows_of_inv hs hu hq⟩
  have hend : Blocking p i 0 (v + n * delta) delta dir (s.pushed p i 0 (v + n * delta) delta dir
      [.sequencer, .sequencer] (rampWords (Bool.xor dir s.cfg.dirPol) (s.device i).enabled delta v n)) :=
    ⟨rfl, rfl, hb.flows.congr (hlog := List.length_set)⟩
  refine ⟨_, (hb.run_ramp hv hsched 2).trans (hend.run_end rfl), ?log, rfl, rfl, rfl, ?idle, rfl, hfault⟩
  case log =>
    have hlog := State.log_emit hb.flows.log_lt (rampWords (Bool.xor dir s.cfg.dirPol) (s.device i).enabled delta v n)
    refine hlog.trans ?_
    -- the statement reads the range as integers before it maps it
    simp [rampWords, ← List.map_eq_flatMap, Function.comp_def]
  case idle => exact congrArg Device.running (State.device_setDevice_self (State.lt_of_inUse hu))

end Sys2Proof.Machine

/-! # The acceleration controller

The exact ramp is one truncating division, which falls strictly below a delay above 0. The ramp callback is then said
once per branch of R216, each as one write of the slot's record, and the mirror law runs these branches forth and back.
MOVE_TO's sequencer steps are said once each, and its bursts are the runs of these steps. -/

namespace Sys2Proof

/-! ## The exact ramp (44_accel_controller.md R218, R219) -/

variable {c : Cfg}

theorem Cfg.numSteps_pos (h : c.ok = true) : 0 < c.numSteps := by
  simp only [Cfg.ok, Bool.and_eq_true, decide_eq_true_eq] at h
  obtain ⟨-, -, -, -, -, -, -, hsteps, -⟩ := h
  exact hsteps

/-- The closed form of an accelerating slice, with one truncating division (R219). -/
theorem Cfg.s2d_project_d2s (hex : c.numerics = .exact) (d p q : Nat) :
    c.s2d (c.project (c.d2s d) ⟨p, q⟩) =
      10 * c.maxRate * (10 * c.maxRate) * (d + 10) * q /
        (10 * c.maxRate * (10 * c.maxRate) * q + p * c.numSteps * (d + 10) * (d + 10)) - 10 := by
  have hnum : 10 * c.maxRate * (10 * c.maxRate * (d + 10) * q) =
      10 * c.maxRate * (10 * c.maxRate) * (d + 10) * q := by ring
  rw [Cfg.d2s_exact hex, Cfg.project_exact hex, Cfg.s2d_exact hex, Cfg.exactProject, hnum]

/-- The period falls strictly below the old one, so that the delay does not exceed one less than the old one (R218). -/
theorem Cfg.s2d_project_d2s_le (hc : c.ok = true) (hex : c.numerics = .exact) (d : Nat) {p q : Nat} (hp : 0 < p) :
    c.s2d (c.project (c.d2s d) ⟨p, q⟩) ≤ d - 1 := by
  have hfall : 0 < p * c.numSteps * (d + 10) * (d + 10) * (d + 10) := by
    have := Cfg.numSteps_pos hc
    positivity
  have hperiod : 10 * c.maxRate * (10 * c.maxRate) * (d + 10) * q /
      (10 * c.maxRate * (10 * c.maxRate) * q + p * c.numSteps * (d + 10) * (d + 10)) < d + 10 := by
    refine Nat.div_lt_of_lt_mul ?_
    linarith
  rw [Cfg.s2d_project_d2s hex]
  omega

/-- Settles O45: the closed form, and the period that falls. -/
theorem exactRampNeverStallsAboveZero : Obligations.ExactRampNeverStallsAboveZero := by
  intro c d p q hc hex hp _ K D next
  have hle : next ≤ d - 1 := Cfg.s2d_project_d2s_le hc hex d hp
  exact ⟨Cfg.s2d_project_d2s hex d p q, fun hd => by omega, fun hd => by omega⟩

end Sys2Proof

namespace Sys2Proof.Machine

open Sys2Proof.Safety Sys2Proof.Claims

/-! ## The ramp callback (R216, R217) -/

/-- set_delay of a value in range after a write of the slot's record is one write. -/
theorem setDelay_setDevice {s : State} {i v : Nat} (hi : i < s.dev.length) (hv : v < 2 ^ 30) (d : Device) :
    (s.setDevice i d).setDelay i v = s.setDevice i (delayed s d v) := by
  rw [setDelay_eq_setDevice hv, State.device_setDevice_self hi, State.setDevice_setDevice]
  rfl

theorem setDelay_modDevice {s : State} {i v : Nat} (hi : i < s.dev.length) (hv : v < 2 ^ 30) (f : Device → Device) :
    (s.modDevice i f).setDelay i v = s.setDevice i (delayed s (f (s.device i)) v) :=
  setDelay_setDevice hi hv _

/-- A change of a record just written is one write. -/
theorem modDevice_setDevice {s : State} {i : Nat} (hi : i < s.dev.length) (d : Device) (f : Device → Device) :
    (s.setDevice i d).modDevice i f = s.setDevice i (f d) := by
  rw [State.modDevice, State.device_setDevice_self hi, State.setDevice_setDevice]

section Decelerating

variable {s : State} {i : Nat}

theorem accelCallback_of_still (h : (s.device i).accelDir = .coast ∨ (s.device i).movAccNum = 0#64) :
    accelCallback i s = s := by
  rw [accelCallback]
  obtain h | h := h <;> simp [h]

theorem accelCallback_of_down (hm : (s.device i).movAccNum ≠ 0#64) (hd : (s.device i).accelDir = .down) :
    accelCallback i s = accelDown i s := by
  simp only [accelCallback, if_neg hm, hd]

theorem accelDown_of_coasts (hc : (s.device i).coastingSlices ≠ 0#32) :
    accelDown i s =
      withDev s i { s.device i with coastingSlices := (s.device i).coastingSlices - 1#32 } := by
  rw [accelDown, if_neg hc]
  rfl

theorem accelDown_of_append {l : List Word} {r : Word} (hi : i < s.dev.length)
    (hc : (s.device i).coastingSlices = 0#32) (hl : (s.device i).stack = l ++ [r]) (hr : r.toNat < 2 ^ 30) :
    accelDown i s = withDev s i (delayed s { s.device i with stack := l } r.toNat) := by
  rw [accelDown, if_pos hc, pop_of_append hl]
  exact setDelay_setDevice hi hr _

theorem accelDown_of_nil (hc : (s.device i).coastingSlices = 0#32) (hl : (s.device i).stack = []) :
    accelDown i s = { s with fault := s.fault ||| 2#32 } := by
  rw [accelDown, if_pos hc, pop_of_nil hl]
  rfl

end Decelerating

theorem accelCallback_of_up {s : State} {i : Nat} (hm : (s.device i).movAccNum ≠ 0#64)
    (hd : (s.device i).accelDir = .up) : accelCallback i s = accelUp i s := by
  simp only [accelCallback, if_neg hm, hd]

/-- The model's delay before the cap is the statement's closed form, under the exact rates. -/
theorem rampDelay_eq_rampTarget {s : State} (hex : s.cfg.numerics = .exact) (d : Device) :
    rampDelay s.cfg d.delay.toNat d.movingAcceleration = rampTarget s d := by
  rw [rampDelay, Device.movingAcceleration, Cfg.s2d_project_d2s hex]
  rfl

/-- Slot `i` accelerates under the exact rates, its speed capped at the rate `m`. -/
structure Accelerating (s : State) (i : Nat) (m : Word) : Prop where
  slot : i < s.dev.length
  cfgOk : s.cfg.ok = true
  exactRates : s.cfg.numerics = .exact
  moving : (s.device i).movAccNum ≠ 0#64
  up : (s.device i).accelDir = .up
  den : 1 ≤ (s.device i).movAccDen.toNat
  maxSpeed : (s.device i).maxSpeed = some m
  delay_lt : (s.device i).delay.toNat < 2 ^ 30
  cap_lt : s.cfg.s2d ⟨m.toNat, 1⟩ < 2 ^ 30

namespace Accelerating

variable {s : State} {i : Nat} {m : Word}

/-- Before the cap the delay falls (R218). -/
theorem rampTarget_lt (h : Accelerating s i m) : rampTarget s (s.device i) < (s.device i).delay.toNat := by
  have hp : 0 < (s.device i).movAccNum.toNat :=
    Nat.pos_of_ne_zero fun h0 => h.moving (BitVec.eq_of_toNat_eq h0)
  have hle : s.cfg.s2d (s.cfg.project (s.cfg.d2s (s.device i).delay.toNat) (s.device i).movingAcceleration) ≤
      (s.device i).delay.toNat - 1 :=
    Cfg.s2d_project_d2s_le h.cfgOk h.exactRates _ hp
  rw [← rampDelay_eq_rampTarget h.exactRates, rampDelay]
  split_ifs <;> omega

/-- An accelerating slice coasts where the next delay does not exceed the cap, else it pushes the old one (R216). -/
theorem accelCallback_eq (h : Accelerating s i m) :
    accelCallback i s =
      if rampTarget s (s.device i) ≤ s.cfg.s2d ⟨m.toNat, 1⟩ then
        (s.countCoast i).setDelay i (s.cfg.s2d ⟨m.toNat, 1⟩)
      else (s.push i (s.device i).delay).setDelay i (rampTarget s (s.device i)).toNat := by
  rw [accelCallback_of_up h.moving h.up, accelUp, h.maxSpeed]
  simp only [rampDelay_eq_rampTarget h.exactRates, Cfg.rateDelay, Rate.ofNat]
  by_cases hle : rampTarget s (s.device i) ≤ s.cfg.s2d ⟨m.toNat, 1⟩
  · rw [max_eq_right hle, Int.toNat_natCast, if_pos rfl, if_pos hle]
  · have hlt := lt_of_not_ge hle
    have hne : (rampTarget s (s.device i)).toNat ≠ s.cfg.s2d ⟨m.toNat, 1⟩ := by omega
    rw [max_eq_left hlt.le, if_neg hne, if_neg hle]

theorem accelCallback_of_coast (h : Accelerating s i m) (hle : rampTarget s (s.device i) ≤ s.cfg.s2d ⟨m.toNat, 1⟩)
    (hfit : (s.device i).coastingSlices ≠ 0xFFFFFFFF#32) :
    accelCallback i s = withDev s i (delayed s
      { s.device i with coastingSlices := (s.device i).coastingSlices + 1#32 } (s.cfg.s2d ⟨m.toNat, 1⟩)) := by
  rw [h.accelCallback_eq, if_pos hle, State.countCoast, if_neg hfit]
  exact setDelay_setDevice h.slot h.cap_lt _

/-- The coast counter that does not fit 32 bits holds a free value (log 11). -/
theorem accelCallback_of_coast_overflow (h : Accelerating s i m)
    (hle : rampTarget s (s.device i) ≤ s.cfg.s2d ⟨m.toNat, 1⟩)
    (hfull : (s.device i).coastingSlices = 0xFFFFFFFF#32) :
    accelCallback i s = { withDev s i (delayed s
      { s.device i with coastingSlices := Config.freeCoast s.freeIx } (s.cfg.s2d ⟨m.toNat, 1⟩)) with
      freeIx := s.freeIx + 1 } := by
  rw [h.accelCallback_eq, if_pos hle, State.countCoast, if_pos hfull]
  exact setDelay_setDevice (s := s.tick) h.slot h.cap_lt _

/-- A delay above the cap is in range. -/
theorem toNat_rampTarget_lt (h : Accelerating s i m) : (rampTarget s (s.device i)).toNat < 2 ^ 30 := by
  have := h.rampTarget_lt
  have := h.delay_lt
  omega

theorem accelCallback_of_push (h : Accelerating s i m)
    (hlt : (s.cfg.s2d ⟨m.toNat, 1⟩ : Int) < rampTarget s (s.device i))
    (hroom : HasRoom s i 1) :
    accelCallback i s = withDev s i (delayed s
      { s.device i with stack := (s.device i).stack ++ [(s.device i).delay] } (rampTarget s (s.device i)).toNat) := by
  rw [h.accelCallback_eq, if_neg (not_le_of_gt hlt), push_of_room hroom]
  exact setDelay_setDevice h.slot h.toNat_rampTarget_lt _

/-- On a full finite stack nothing is stored (42_ramp_stack.md R171). -/
theorem accelCallback_of_full (h : Accelerating s i m)
    (hlt : (s.cfg.s2d ⟨m.toNat, 1⟩ : Int) < rampTarget s (s.device i))
    (hfull : ∃ n ∈ s.cfg.stackDepth, n ≤ (s.device i).stack.length) :
    accelCallback i s = { withDev s i (delayed s (s.device i) (rampTarget s (s.device i)).toNat) with
      fault := s.fault ||| 1#32 } := by
  rw [h.accelCallback_eq, if_neg (not_le_of_gt hlt), State.push, if_pos ((stackFull_iff _ _).2 hfull)]
  exact setDelay_eq_setDevice (s := s.raiseFault fStackOvf) h.toNat_rampTarget_lt

end Accelerating

/-- Settles O44: the branches of the callback. -/
theorem rampCallbackCases : Obligations.RampCallbackCases := by
  intro s i hc hi d
  refine ⟨accelCallback_of_still, fun hm hd => ?down, fun hm hd => ⟨fun hunset => ?unset,
    fun m hmax hex hden hdelay hcap => ?up⟩⟩
  case down =>
    rw [accelCallback_of_down hm hd]
    exact ⟨accelDown_of_coasts, fun hcoast _ _ hl hr => accelDown_of_append hi hcoast hl hr, accelDown_of_nil⟩
  case unset =>
    have hnone : (s.device i).maxSpeed = none := hunset
    rw [accelCallback_of_up hm hd, accelUp, hnone]
    rfl
  case up =>
    have h : Accelerating s i m := ⟨hi, hc, hex, hm, hd, hden, hmax, hdelay, hcap⟩
    exact ⟨h.accelCallback_of_coast, fun hle hfull => ⟨_, h.accelCallback_of_coast_overflow hle hfull⟩,
      h.accelCallback_of_push, h.accelCallback_of_full⟩

/-! ## The mirror law (R220) -/

/-- The record of a ramp in progress: its stack, its coasts, and its delay in the control word; the rest is `d`'s. -/
def onRamp (d : Device) (stack : List Word) (coasts : Nat) (delay : Word) : Device :=
  { d with
    stack := stack
    coastingSlices := BitVec.ofNat 32 coasts
    delay := delay
    command := controlWord delay d.direction d.enabled }

/-- A delay that MINDELAY does not raise is set as it is. -/
theorem delayed_onRamp {s : State} {v : Nat} (hv : s.cfg.minDelay ≤ v) (d : Device) (l : List Word) (c : Nat)
    (w : Word) : delayed s (onRamp d l c w) v = onRamp d l c (BitVec.ofNat 32 v) := by
  simp only [delayed, clamped, onRamp, max_eq_left hv]

theorem onRamp_coast (d : Device) (l : List Word) (c : Nat) (v : Word) :
    { onRamp d l c v with coastingSlices := (onRamp d l c v).coastingSlices + 1#32 } = onRamp d l (c + 1) v := by
  simp only [onRamp, BitVec.ofNat_add]

theorem onRamp_uncoast (d : Device) (l : List Word) (c : Nat) (v : Word) :
    { onRamp d l (c + 1) v with coastingSlices := (onRamp d l (c + 1) v).coastingSlices - 1#32 } =
      onRamp d l c v := by
  simp only [onRamp, BitVec.ofNat_add, BitVec.add_sub_cancel]

theorem onRamp_coasts_toNat {d : Device} {l : List Word} {c : Nat} {v : Word} (hc : c < 2 ^ 32) :
    (onRamp d l c v).coastingSlices.toNat = c := wordOf_toNat hc

theorem command_eq_controlWord {d : Device} (h : CommandCurrent d) :
    d.command = controlWord d.delay d.direction d.enabled := h.trans (encodeControl_eq_ofNat ..)

/-- A clean start is a ramp with nothing pushed and no coast. -/
theorem withDev_onRamp_of_clean {s : State} {i : Nat} (hcur : CommandCurrent (s.device i))
    (hstack : (s.device i).stack = []) (hcoast : (s.device i).coastingSlices = 0#32) :
    withDev s i (onRamp (s.device i) [] 0 (s.device i).delay) = s := by
  have hclean : onRamp (s.device i) [] 0 (s.device i).delay = s.device i := by
    rw [onRamp, ← command_eq_controlWord hcur, ← hstack, ← hcoast]
  rw [hclean]
  exact s.setDevice_device i

theorem iterate_add (f : State → State) (m n : Nat) (s : State) :
    iterate f (m + n) s = iterate f n (iterate f m s) := by
  induction m generalizing s with
  | zero => rw [Nat.zero_add, iterate]
  | succ m ih => rw [Nat.succ_add, iterate, iterate, ih]

/-- The `k`-th value from the end has `k` values after it. -/
theorem exists_eq_append_reverse_getD {ds : List Word} {k : Nat} (hk : k < ds.length) :
    ∃ l rs, ds = l ++ ds.reverse.getD k 0#32 :: rs ∧ rs.length = k := by
  refine ⟨ds.take (ds.length - 1 - k), ds.drop (ds.length - 1 - k + 1), ?_, ?_⟩
  · rw [List.getD_eq_getElem _ _ (hk.trans_eq List.length_reverse.symm), List.getElem_reverse,
      List.cons_getElem_drop_succ, List.take_append_drop]
  · rw [List.length_drop]
    omega

section Mirror

variable {s : State} {i : Nat} {m : Word} {d : Device} {l : List Word} {c n : Nat} {v : Word}

theorem device_withDev (hi : i < s.dev.length) (d : Device) : (withDev s i d).device i = d :=
  State.device_setDevice_self hi

theorem withDev_withDev (d e : Device) : withDev (withDev s i d) i e = withDev s i e :=
  State.setDevice_setDevice s i d e

/-- What the mirror law asks of the machine and of the record `d` of slot `i`, whatever its delay: it accelerates, its
stack is unbounded, and its cap is not below MINDELAY. -/
structure Mirrored (s : State) (i : Nat) (m : Word) (d : Device) : Prop where
  slot : i < s.dev.length
  cfgOk : s.cfg.ok = true
  exactRates : s.cfg.numerics = .exact
  unbounded : s.cfg.stackDepth = none
  moving : d.movAccNum ≠ 0#64
  up : d.accelDir = .up
  den : 1 ≤ d.movAccDen.toNat
  maxSpeed : d.maxSpeed = some m
  cap_ge : s.cfg.minDelay ≤ s.cfg.s2d ⟨m.toNat, 1⟩
  cap_lt : s.cfg.s2d ⟨m.toNat, 1⟩ < 2 ^ 30

/-- The accelerating slice at delay `v` coasts (R216). -/
abbrev Coasts (s : State) (m : Word) (d : Device) (v : Word) : Prop :=
  rampTarget s (onRamp d [] 0 v) ≤ s.cfg.s2d ⟨m.toNat, 1⟩

theorem delayInRange_ofNat {k : Cfg} {v : Nat} (hlo : k.minDelay ≤ v) (hhi : v < 2 ^ 30) :
    DelayInRange k (BitVec.ofNat 32 v) := by
  rw [DelayInRange, BitVec.toNat_ofNat, Nat.mod_eq_of_lt (by omega)]
  exact ⟨hlo, hhi⟩

theorem ofNat_ne_of_lt {a b : Nat} (ha : a < 2 ^ 32) (hb : b < 2 ^ 32) (hne : a ≠ b) :
    BitVec.ofNat 32 a ≠ BitVec.ofNat 32 b := by
  rwa [ne_eq, ← BitVec.toNat_inj, BitVec.toNat_ofNat, BitVec.toNat_ofNat, Nat.mod_eq_of_lt ha, Nat.mod_eq_of_lt hb]

namespace Mirrored

/-! ### The way up -/

theorem accelerating (h : Mirrored s i m d) (hv : v.toNat < 2 ^ 30) :
    Accelerating (withDev s i (onRamp d l c v)) i m := by
  have hd := device_withDev h.slot (onRamp d l c v)
  refine ⟨h.slot.trans_eq List.length_set.symm, h.cfgOk, h.exactRates, ?_, ?_, ?_, ?_, ?_, h.cap_lt⟩
  all_goals rw [hd]
  exacts [h.moving, h.up, h.den, h.maxSpeed, hv]

theorem accelCallback_of_coasts (h : Mirrored s i m d) (hv : v.toNat < 2 ^ 30) (hcoast : Coasts s m d v)
    (hc : c + 1 < 2 ^ 32) :
    accelCallback i (withDev s i (onRamp d l c v)) =
      withDev s i (onRamp d l (c + 1) (BitVec.ofNat 32 (s.cfg.s2d ⟨m.toNat, 1⟩))) := by
  have hd := device_withDev h.slot (onRamp d l c v)
  have hfit : BitVec.ofNat 32 c ≠ 0xFFFFFFFF#32 := ofNat_ne_of_lt (by omega) (by omega) (by omega)
  rw [(h.accelerating hv).accelCallback_of_coast (by rw [hd]; exact hcoast) (by rw [hd]; exact hfit), hd,
    withDev_withDev, onRamp_coast]
  exact congrArg _ (delayed_onRamp h.cap_ge ..)

theorem accelCallback_of_pushes (h : Mirrored s i m d) (hv : v.toNat < 2 ^ 30) (hpush : ¬Coasts s m d v) :
    ∃ w, DelayInRange s.cfg w ∧
      accelCallback i (withDev s i (onRamp d l c v)) = withDev s i (onRamp d (l ++ [v]) c w) := by
  have hd := device_withDev h.slot (onRamp d l c v)
  have ha : Accelerating (withDev s i (onRamp d l c v)) i m := h.accelerating hv
  have hlt : (s.cfg.s2d ⟨m.toNat, 1⟩ : Int) < rampTarget s (onRamp d l c v) := lt_of_not_ge hpush
  have hroom : HasRoom (withDev s i (onRamp d l c v)) i 1 := fun n (hn : s.cfg.stackDepth = some n) => by
    rw [h.unbounded] at hn
    cases hn
  have hhi := ha.toNat_rampTarget_lt
  rw [ha.accelCallback_of_push (by rw [hd]; exact hlt) hroom]
  rw [hd] at hhi ⊢
  have hlo : s.cfg.minDelay ≤ (rampTarget s (onRamp d l c v)).toNat := by
    have := h.cap_ge
    omega
  exact ⟨_, delayInRange_ofNat hlo hhi,
    (withDev_withDev ..).trans (congrArg _ (delayed_onRamp (l := l ++ [v]) hlo ..))⟩

/-- At the cap every slice coasts, for the next delay is no greater (R220). -/
theorem coasts_cap (h : Mirrored s i m d) : Coasts s m d (BitVec.ofNat 32 (s.cfg.s2d ⟨m.toNat, 1⟩)) := by
  have hcap : (BitVec.ofNat 32 (s.cfg.s2d ⟨m.toNat, 1⟩)).toNat = s.cfg.s2d ⟨m.toNat, 1⟩ := by
    have := h.cap_lt
    exact wordOf_toNat (by omega)
  have hfall := (h.accelerating (l := []) (c := 0) (hcap.trans_lt h.cap_lt)).rampTarget_lt
  rw [device_withDev h.slot] at hfall
  exact (hfall.trans_eq (congrArg Nat.cast hcap)).le

/-- Slices that coast once coast for good. -/
theorem iterate_of_coasts (h : Mirrored s i m d) (hv : v.toNat < 2 ^ 30) (hcoast : Coasts s m d v)
    (hc : c + n < 2 ^ 32) :
    ∃ w, iterate (accelCallback i) n (withDev s i (onRamp d l c v)) = withDev s i (onRamp d l (c + n) w) := by
  induction n generalizing c v with
  | zero => exact ⟨v, rfl⟩
  | succ n ih =>
    have hcap := (delayInRange_ofNat h.cap_ge h.cap_lt).2
    obtain ⟨w, hw⟩ := ih (c := c + 1) hcap h.coasts_cap (by omega)
    rw [iterate, h.accelCallback_of_coasts hv hcoast (by omega), hw, Nat.add_right_comm, Nat.add_assoc]
    exact ⟨w, rfl⟩

/-- The way up pushes some delays `ds`, from the first one on, and then coasts (R220). -/
theorem iterate_up (h : Mirrored s i m d) (hv : DelayInRange s.cfg v) (hn : n < 2 ^ 32) :
    ∃ ds : List Word, ds.length ≤ n ∧ (∀ r ∈ ds, DelayInRange s.cfg r) ∧ (∀ r ∈ ds.head?, r = v) ∧
      ∀ k ≤ n, ∃ w, iterate (accelCallback i) k (withDev s i (onRamp d l 0 v)) =
        withDev s i (onRamp d (l ++ ds.take k) (k - ds.length) w) := by
  obtain ⟨-, hlt⟩ := id hv
  induction n generalizing l v with
  | zero =>
    refine ⟨[], le_rfl, List.forall_mem_nil _, by simp, fun k hk => ⟨v, ?_⟩⟩
    rw [Nat.le_zero.1 hk, List.take_nil, List.append_nil]
    rfl
  | succ n ih =>
    by_cases hcoast : Coasts s m d v
    · refine ⟨[], Nat.zero_le _, List.forall_mem_nil _, by simp, fun k hk => ?_⟩
      obtain ⟨w, hw⟩ := h.iterate_of_coasts (l := l) (c := 0) (n := k) hlt hcoast (by omega)
      rw [List.take_nil, List.append_nil, List.length_nil, Nat.sub_zero, hw, Nat.zero_add]
      exact ⟨w, rfl⟩
    · obtain ⟨w, hw, hstep⟩ := h.accelCallback_of_pushes (l := l) (c := 0) hlt hcoast
      obtain ⟨ds, hlen, hds, -, hrun⟩ := ih (l := l ++ [v]) hw (by omega) hw.2
      refine ⟨v :: ds, Nat.succ_le_succ hlen, List.forall_mem_cons.2 ⟨hv, hds⟩, by simp, fun k hk => ?_⟩
      cases k with
      | zero => exact ⟨v, by rw [List.take_zero, List.append_nil, Nat.zero_sub, iterate]⟩
      | succ k =>
        obtain ⟨u, hu⟩ := hrun k (by omega)
        refine ⟨u, ?_⟩
        rw [iterate, hstep, hu, List.take_succ_cons, List.append_assoc, List.singleton_append, List.length_cons,
          Nat.add_sub_add_right]

end Mirrored

/-! ### The way down: `d` decelerates -/

/-- The slot `i` exists, and the record `d` of it decelerates. -/
structure Retracing (s : State) (i : Nat) (d : Device) : Prop where
  slot : i < s.dev.length
  moving : d.movAccNum ≠ 0#64
  down : d.accelDir = .down

namespace Retracing

theorem accelCallback_eq (h : Retracing s i d) :
    accelCallback i (withDev s i (onRamp d l c v)) = accelDown i (withDev s i (onRamp d l c v)) := by
  have hd := device_withDev h.slot (onRamp d l c v)
  exact accelCallback_of_down (by rw [hd]; exact h.moving) (by rw [hd]; exact h.down)

/-- Each slice unwinds one coast (R216). -/
theorem iterate_uncoast (h : Retracing s i d) (hn : n ≤ c) (hc : c < 2 ^ 32) :
    iterate (accelCallback i) n (withDev s i (onRamp d l c v)) = withDev s i (onRamp d l (c - n) v) := by
  induction n generalizing c with
  | zero => rfl
  | succ n ih =>
    obtain ⟨c, rfl⟩ := Nat.exists_eq_add_of_le' (Nat.one_le_of_lt hn)
    have hd := device_withDev h.slot (onRamp d l (c + 1) v)
    have hcoasts : BitVec.ofNat 32 (c + 1) ≠ 0#32 := ofNat_ne_of_lt hc (by omega) (by omega)
    rw [iterate, h.accelCallback_eq, accelDown_of_coasts (by rw [hd]; exact hcoasts), hd, withDev_withDev,
      onRamp_uncoast, Nat.add_sub_add_right]
    exact ih (by omega) (by omega)

theorem accelCallback_of_pop (h : Retracing s i d) {r : Word} (hr : DelayInRange s.cfg r) :
    accelCallback i (withDev s i (onRamp d (l ++ [r]) 0 v)) = withDev s i (onRamp d l 0 r) := by
  have hd := device_withDev h.slot (onRamp d (l ++ [r]) 0 v)
  rw [h.accelCallback_eq, accelDown_of_append (l := l) (r := r) (h.slot.trans_eq List.length_set.symm)
    (by rw [hd]; rfl) (by rw [hd]; rfl) hr.2, hd, withDev_withDev]
  have hset := delayed_onRamp hr.1 d l 0 v
  rw [ofNat_toNat_word] at hset
  exact congrArg _ hset

/-- The delays pushed come back last first (R220). -/
theorem iterate_pop (h : Retracing s i d) {r : Word} {rs : List Word} (hr : ∀ w ∈ r :: rs, DelayInRange s.cfg w) :
    iterate (accelCallback i) (rs.length + 1) (withDev s i (onRamp d (l ++ r :: rs) 0 v)) =
      withDev s i (onRamp d l 0 r) := by
  induction rs using List.reverseRecOn generalizing v with
  | nil => exact h.accelCallback_of_pop (hr r List.mem_cons_self)
  | append_singleton rs x ih =>
    obtain ⟨hrs, hx⟩ := List.forall_mem_append.1 (show ∀ w ∈ (r :: rs) ++ [x], DelayInRange s.cfg w from hr)
    have hpop := h.accelCallback_of_pop (l := l ++ r :: rs) (v := v) (List.forall_mem_singleton.1 hx)
    rw [List.append_assoc, List.cons_append] at hpop
    rw [iterate, hpop, List.length_append, List.length_singleton]
    exact ih hrs

/-- The coasts are unwound first, and then the delays come back. -/
theorem iterate_uncoast_pop (h : Retracing s i d) (hc : c < 2 ^ 32) {r : Word} {rs : List Word}
    (hr : ∀ w ∈ r :: rs, DelayInRange s.cfg w) :
    iterate (accelCallback i) (c + rs.length + 1) (withDev s i (onRamp d (l ++ r :: rs) c v)) =
      withDev s i (onRamp d l 0 r) := by
  rw [Nat.add_assoc, iterate_add, h.iterate_uncoast le_rfl hc, Nat.sub_self]
  exact h.iterate_pop hr

/-- The `k`-th delay that comes back is the `k`-th from the end (R220). -/
theorem iterate_pop_reverse (h : Retracing s i d) (hc : c < 2 ^ 32) {ds : List Word}
    (hds : ∀ r ∈ ds, DelayInRange s.cfg r) {k : Nat} (hk : k < ds.length) :
    ∃ rest, iterate (accelCallback i) (c + k + 1) (withDev s i (onRamp d ds c v)) =
      withDev s i (onRamp d rest 0 (ds.reverse.getD k 0#32)) := by
  obtain ⟨rest, rs, hsplit, hrs⟩ := exists_eq_append_reverse_getD hk
  generalize ds.reverse.getD k 0#32 = r at hsplit ⊢
  subst hsplit hrs
  exact ⟨rest, h.iterate_uncoast_pop hc (List.forall_mem_append.1 hds).2⟩

/-- The whole way down ends with the stack and the coasts gone, at the first delay pushed if there was one (R220). -/
theorem iterate_down (h : Retracing s i d) (hc : c < 2 ^ 32) {ds : List Word}
    (hds : ∀ r ∈ ds, DelayInRange s.cfg r) :
    ∃ w, iterate (accelCallback i) (c + ds.length) (withDev s i (onRamp d ds c v)) = withDev s i (onRamp d [] 0 w) ∧
      ∀ r ∈ ds.head?, w = r := by
  cases ds with
  | nil => exact ⟨v, by rw [List.length_nil, Nat.add_zero, h.iterate_uncoast le_rfl hc, Nat.sub_self], by simp⟩
  | cons r rs => exact ⟨r, h.iterate_uncoast_pop (l := []) hc hds, by simp⟩

end Retracing

end Mirror

/-- Settles O46: the way up pushes and coasts, and the way down unwinds the one and pops the other. -/
theorem decelerationMirrorsAcceleration : Obligations.DecelerationMirrorsAcceleration := by
  intro s i h m hc hfault hi hex hdepth hh hrange hcur hstack hcoast hup hmov hden hmax hge hlt up pushed turned down
  have hmirror : Mirrored s i m (s.device i) := ⟨hi, hc, hex, hdepth, hmov, hup, hden, hmax, hge, hlt⟩
  have hretrace : Retracing s i { s.device i with accelDir := .down } := ⟨hi, hmov, rfl⟩
  have hread : ∀ {t e}, t = withDev s i e → t.device i = e := fun ht => ht ▸ device_withDev hi _
  obtain ⟨ds, hlen, hds, hhead, hrun⟩ := hmirror.iterate_up (l := []) hrange hh
  simp only [withDev_onRamp_of_clean hcur hstack hcoast, List.nil_append] at hrun
  obtain ⟨v, hv⟩ := hrun h le_rfl
  rw [List.take_of_length_le hlen] at hv
  have hpushed : pushed = ds := congrArg Device.stack (hread hv)
  have hturned : turned = withDev s i (onRamp { s.device i with accelDir := .down } ds (h - ds.length) v) := by
    change withDev (iterate (accelCallback i) h s) i { up h with accelDir := .down } = _
    rw [show up h = _ from hread hv, hv, withDev_withDev]
    rfl
  have hcount : h - ds.length < 2 ^ 32 := by omega
  obtain ⟨w, hend, hw⟩ := hretrace.iterate_down (v := v) hcount hds
  rw [← hturned, Nat.sub_add_cancel hlen] at hend
  have hlast : down h = _ := hread hend
  rw [hpushed]
  refine ⟨fun k hk => ?up, fun k hk => ?uncoast, fun k hk => ?pop, congrArg Device.stack hlast,
    congrArg Device.coastingSlices hlast, by rwa [hend], fun hne => ?back⟩
  case up =>
    obtain ⟨u, hu⟩ := hrun k hk
    have hupk : up k = _ := hread hu
    rw [hupk, onRamp_coasts_toNat (by omega)]
    refine ⟨rfl, ?_⟩
    simp only [onRamp, List.length_take]
    omega
  case uncoast =>
    have huncoast := hretrace.iterate_uncoast (l := ds) (v := v) hk hcount
    rw [← hturned] at huncoast
    have hdownk : down k = _ := hread huncoast
    rw [hdownk, onRamp_coasts_toNat (by omega)]
    exact ⟨rfl, Nat.sub_add_cancel hk⟩
  case pop =>
    obtain ⟨rest, hpop⟩ := hretrace.iterate_pop_reverse (v := v) hcount hds hk
    rw [← hturned] at hpop
    exact congrArg Device.delay (hread hpop)
  case back =>
    obtain ⟨r, rs, rfl⟩ := List.exists_cons_of_ne_nil hne
    obtain rfl : w = r := hw r rfl
    obtain rfl : w = (s.device i).delay := hhead w rfl
    have hdelay := congrArg Device.delay hlast
    have hcommand := congrArg Device.command hlast
    exact ⟨rfl, hdelay, hcommand.trans (command_eq_controlWord hcur).symm⟩

/-! ## MOVE_TO's prologue (R221, R222) -/

/-- MOVE_TO is accepted or refused by its prologue, whose handle check a claimed slot passes. -/
theorem exec_moveTo (s : State) (target : Word) (h : Byte) :
    exec (.moveTo h target) s = macroCommand s (moveToPrologue h target s) := rfl

/-- A speed that is not set, or no program, is the first refusal (R221). -/
theorem moveToPrologue_of_notConfigured {s : State} {h : Byte} (hh : Claimed s h)
    (hd : (s.device h.toNat).configured = false ∨ (s.device h.toNat).minSpeed = none ∨
      (s.device h.toNat).maxSpeed = none) (target : Word) :
    moveToPrologue h target s = .ends (Result.fail .notConfigured) := by
  have hv : s.validHandle h = true := (validHandle_iff s h).2 hh
  cases hc : (s.device h.toNat).configured with
  | false => simp [moveToPrologue, hv, hc]
  | true =>
    obtain hd | hd | hd := hd
    · simp [hc] at hd
    · simp [moveToPrologue, hv, hc, hd]
    · cases hmin : (s.device h.toNat).minSpeed <;> simp [moveToPrologue, hv, hc, hd, hmin]

/-- With a program and both speeds, `running` decides (R221). -/
theorem moveToPrologue_of_configured {s : State} {h : Byte} {m m' : Word} (hh : Claimed s h)
    (hc : (s.device h.toNat).configured = true) (hmin : (s.device h.toNat).minSpeed = some m)
    (hmax : (s.device h.toNat).maxSpeed = some m') (target : Word) :
    moveToPrologue h target s =
      if (s.device h.toNat).running = true then .ends (Result.fail .alreadyRunning)
      else .starts (s.beginMoveTo h.toNat target m)
        (.to h.toNat .accel (distance target (s.device h.toNat).position / s.cfg.numSteps / 2)
          (distance target (s.device h.toNat).position % s.cfg.numSteps)
          (distance target (s.device h.toNat).position / s.cfg.numSteps / 2)) := by
  have hv : s.validHandle h = true := (validHandle_iff s h).2 hh
  simp [moveToPrologue, hv, hc, hmin, hmax]

/-- What the prologue makes of the device's record (R222). -/
def movedTo (s : State) (target minSpeed : Word) (d : Device) : Device :=
  let dir := Bool.xor (decide (d.position.toInt < target.toInt)) s.cfg.dirPol
  let delay := clamped s (s.cfg.s2d ⟨minSpeed.toNat, 1⟩)
  { d with
    position := target
    delay := delay
    coastingSlices := 0#32
    movAccNum := BitVec.ofNat 64 d.acceleration.toNat
    movAccDen := 1#32
    direction := dir
    command := controlWord delay dir d.enabled
    accelDir := .up
    stack := [] }

theorem beginMoveTo_eq {s : State} {i : Nat} {m : Word} (hi : i < s.dev.length)
    (hm : s.cfg.s2d ⟨m.toNat, 1⟩ < 2 ^ 30) (target : Word) :
    s.beginMoveTo i target m = withDev s i (movedTo s target m (s.device i)) := by
  have hrate : s.cfg.rateDelay m < 2 ^ 30 := hm
  rw [State.beginMoveTo, State.clearStack, setDelay_modDevice hi hrate, modDevice_setDevice hi, modDevice_setDevice hi]
  simp only [Device.recompute, encodeControl_eq_ofNat, movedTo, BitVec.ofNat_toNat]
  rfl

/-- Settles O47: the prologue's refusals, and what it writes. -/
theorem moveToChecksThenStarts : Obligations.MoveToChecksThenStarts := by
  intro s h target hh d
  rw [exec_moveTo]
  refine ⟨fun hd => ?_, fun hc hmin hmax hr => ?_, fun m hc hmin hmax hr hm => ?_⟩
  · rw [moveToPrologue_of_notConfigured hh hd]
    rfl
  · obtain ⟨m, hmin⟩ := Option.ne_none_iff_exists'.1 hmin
    obtain ⟨m', hmax⟩ := Option.ne_none_iff_exists'.1 hmax
    rw [moveToPrologue_of_configured hh hc hmin hmax, if_pos hr]
    rfl
  · obtain ⟨m', hmax⟩ := Option.ne_none_iff_exists'.1 hmax
    rw [moveToPrologue_of_configured hh hc hmin hmax, if_neg (ne_true_of_eq_false hr),
      beginMoveTo_eq (lt_of_claimed hh) hm]
    rfl

/-! ## MOVE_TO's sequencer steps (R224 to R226) -/

section MoveTo

variable {s : State} {i k rem half : Nat} {ph : Phase}

/-- The step of a ramp burst, in either half (R224, R226). -/
theorem sequencerStep_to_succ (hs : s.seq = .to i ph (k + 1) rem half) (hph : ph ≠ .remainder) :
    sequencerStep s = some { s.seqDispatch i s.cfg.numSteps .ramp with seq := .toWait i ph k rem half } := by
  simp only [sequencerStep, hs]
  cases ph with
  | accel | decel => rfl
  | remainder => exact absurd rfl hph

theorem sequencerStep_to_accel_zero (hs : s.seq = .to i .accel 0 rem half) :
    sequencerStep s = some { s with seq := .to i .remainder 0 rem half } := by
  simp only [sequencerStep, hs]
  rfl

/-- The step of the remainder (R225). -/
theorem sequencerStep_to_remainder_of_pos (hs : s.seq = .to i .remainder 0 rem half) (hrem : 0 < rem) :
    sequencerStep s = some { s.seqDispatch i rem .none with seq := .toWait i .remainder 0 0 half } := by
  simp only [sequencerStep, hs, toStep, if_pos hrem]
  rfl

/-- The turn to deceleration (R225). -/
theorem sequencerStep_to_remainder_zero (hs : s.seq = .to i .remainder 0 0 half) :
    sequencerStep s =
      some { withDev s i { s.device i with accelDir := .down } with seq := .to i .decel half 0 half } := by
  simp only [sequencerStep, hs, toStep]
  rfl

theorem sequencerStep_to_decel_zero (hs : s.seq = .to i .decel 0 rem half) :
    sequencerStep s = some (finished s (won 0#32 0#32)) := by
  simp only [sequencerStep, hs]
  rfl

end MoveTo

/-- An internal dispatch on an idle device with a program arms its burst (43_step_engine.md R189). -/
theorem seqDispatch_of_idle {s : State} {i n : Nat} (hc : (s.device i).configured = true)
    (hr : (s.device i).running = false) (hn : n ≠ 0) (cb : Callback) : s.seqDispatch i n cb = s.armed i n cb := by
  have hok : s.startBurst i n cb = .ok (s.armed i n cb) := (startBurst_ok_iff ..).2 ⟨hc, hr, hn, rfl⟩
  rw [State.seqDispatch, hok]

theorem State.armed_xferOf {s : State} {i : Nat} (hx : (s.device i).ccChan < s.xfer.length) (n : Nat) (cb : Callback) :
    (s.armed i n cb).xferOf (s.device i).ccChan = ⟨wordOf n, true, i⟩ := State.xferOf_setXfer_self hx

/-- Settles O48: each state of the sequencer, and whether its dispatch is refused. -/
theorem moveToSequencerSteps : Obligations.MoveToSequencerSteps := by
  refine ⟨fun s i k rem half ph hs hph => ?ramp, fun s i rem half hs => sequencerStep_to_accel_zero hs,
    fun s i rem half hs => ?remainder, fun s i half hs => sequencerStep_to_remainder_zero hs,
    fun s i rem half hs => sequencerStep_to_decel_zero hs⟩
  case ramp =>
    rw [sequencerStep_to_succ hs hph]
    refine ⟨fun hc hr hn => ?_, fun hd => ?_⟩
    · rw [seqDispatch_of_idle hc hr (Nat.one_le_iff_ne_zero.1 hn)]
      rfl
    · rw [seqDispatch_of_refused hd]
      rfl
  case remainder =>
    rw [sequencerStep_to_remainder_of_pos hs (Nat.succ_pos rem)]
    refine ⟨fun hc hr => ?_, fun hd => ?_⟩
    · rw [seqDispatch_of_idle hc hr (Nat.succ_ne_zero rem)]
      rfl
    · rw [seqDispatch_of_refused hd]
      rfl

/-! ## The bursts of MOVE_TO (R227) -/

/-- From `s`, in which nothing else moves, the sequencer comes to `t` in `n` steps and arms the bursts `bs` on device
`i` on the way. -/
def Arms (i : Nat) (s : State) (n : Nat) (bs : List (Nat × Callback)) (t : State) : Prop :=
  ∀ fuel, soloBursts i (n + fuel) s = (bs ++ (soloBursts i fuel t).1, (soloBursts i fuel t).2)

namespace Arms

variable {i n n' : Nat} {s t u : State} {bs bs' : List (Nat × Callback)}

theorem refl (i : Nat) (s : State) : Arms i s 0 [] s := fun fuel => by
  rw [Nat.zero_add, List.nil_append]

theorem trans (h : Arms i s n bs t) (h' : Arms i t n' bs' u) : Arms i s (n + n') (bs ++ bs') u := fun fuel => by
  rw [Nat.add_assoc, h, h', List.append_assoc]

/-- A step of the sequencer, the device being idle. -/
theorem step (hr : (s.device i).running = false) (h : sequencerStep s = some t) : Arms i s 1 [] t := fun fuel => by
  rw [Nat.add_comm, soloBursts]
  simp only [hr, h]
  rfl

/-- The completion of the burst in flight. -/
theorem complete (hr : (s.device i).running = true) :
    Arms i s 1 [((s.xferOf (s.device i).ccChan).count.toNat, (s.device i).callback)]
      (withDev s i { s.device i with running := false }) := fun fuel => by
  rw [Nat.add_comm, soloBursts]
  simp only [hr, if_true, List.singleton_append]

end Arms

/-- Once the sequencer is idle nothing more is armed. -/
theorem Arms.soloBursts_eq {i n fuel : Nat} {s t : State} {bs : List (Nat × Callback)} (h : Arms i s n bs t)
    (hq : t.seq = .idle) (hr : (t.device i).running = false) (hn : n ≤ fuel) : soloBursts i fuel s = (bs, t) := by
  have hend : ∀ m, soloBursts i m t = ([], t) := fun m => by
    cases m with
    | zero => rw [soloBursts]
    | succ m => simp [soloBursts, hr, sequencerStep, hq]
  rw [← Nat.add_sub_cancel' hn, h, hend, List.append_nil]

/-- Device `i` is idle and can be dispatched, on the configuration `c`, and the run is not faulted. -/
structure MoveReady (c : Cfg) (i : Nat) (s : State) : Prop where
  cfg : s.cfg = c
  slot : i < s.dev.length
  configured : (s.device i).configured = true
  idle : (s.device i).running = false
  chan : (s.device i).ccChan < s.xfer.length
  clean : ¬Faulted s

namespace MoveReady

variable {c : Cfg} {i n k rem half : Nat} {s : State} {cb : Callback} {ph : Phase}

/-- A write of the device's record that leaves it idle, its program and its channel as they are leaves it ready. -/
theorem of_dev_eq_set (h : MoveReady c i s) {t : State} {d : Device} (hdev : t.dev = s.dev.set i d)
    (hconf : d.configured = (s.device i).configured) (hidle : d.running = false)
    (hchan : d.ccChan = (s.device i).ccChan) (hcfg : t.cfg = s.cfg) (hxfer : t.xfer.length = s.xfer.length)
    (hfault : t.fault = s.fault) : MoveReady c i t := by
  have hd : t.device i = d := (congrArg (·.getD i Device.reset) hdev).trans (device_withDev h.slot d)
  refine ⟨hcfg.trans h.cfg, h.slot.trans_eq (hdev ▸ List.length_set.symm), ?_, ?_, ?_, ?_⟩
  · rw [hd, hconf, h.configured]
  · rw [hd, hidle]
  · rw [hd, hchan, hxfer]
    exact h.chan
  · rw [Faulted, hfault]
    exact h.clean

/-- A burst is armed, completed and waited for. -/
theorem burst (h : MoveReady c i s) (hn : n ≠ 0) (hlt : n < 2 ^ 32)
    (hs : sequencerStep s = some { s.seqDispatch i n cb with seq := .toWait i ph k rem half }) :
    ∃ t, Arms i s 3 [(n, cb)] t ∧ t.seq = .to i ph k rem half ∧ MoveReady c i t := by
  rw [seqDispatch_of_idle h.configured h.idle hn] at hs
  generalize hu : { s.armed i n cb with seq := .toWait i ph k rem half } = u at hs
  have hdev : u.device i = { s.device i with callback := cb, running := true } := by
    rw [← hu]
    exact State.armed_device h.slot n cb
  have hcount : (u.xferOf (u.device i).ccChan).count.toNat = n := by
    rw [hdev, ← hu]
    have hxfer := congrArg (·.count.toNat) (State.armed_xferOf h.chan n cb)
    exact hxfer.trans (wordOf_toNat hlt)
  have hcomplete : Arms i u 1 _ _ := .complete (congrArg Device.running hdev)
  rw [hcount, hdev] at hcomplete
  generalize hv : withDev u i _ = v at hcomplete
  have hready : MoveReady c i v := by
    subst hv hu
    exact h.of_dev_eq_set (List.set_set ..) rfl rfl rfl rfl List.length_set rfl
  have hwait : sequencerStep v = some { v with seq := .to i ph k rem half } := by
    rw [sequencerStep_toWait (hv ▸ hu ▸ rfl : v.seq = .toWait i ph k rem half),
      if_neg (ne_true_of_eq_false hready.idle)]
  exact ⟨_, (Arms.step h.idle hs).trans (hcomplete.trans (.step hready.idle hwait)), rfl,
    hready.cfg, hready.slot, hready.configured, hready.idle, hready.chan, hready.clean⟩

/-- The ramp bursts of one half (R224, R226). -/
theorem ramps (h : MoveReady c i s) (hs : s.seq = .to i ph k rem half) (hph : ph ≠ .remainder) (hpos : 0 < c.numSteps)
    (hlt : k ≠ 0 → c.numSteps < 2 ^ 32) :
    ∃ t, Arms i s (3 * k) (List.replicate k (c.numSteps, .ramp)) t ∧ t.seq = .to i ph 0 rem half ∧
      MoveReady c i t := by
  induction k generalizing s with
  | zero => exact ⟨s, .refl i s, hs, h⟩
  | succ k ih =>
    have hlt := hlt (Nat.succ_ne_zero k)
    have hstep := sequencerStep_to_succ hs hph
    rw [h.cfg] at hstep
    obtain ⟨t, harms, hseq, ht⟩ := h.burst hpos.ne' hlt hstep
    obtain ⟨u, hrest, huseq, hu⟩ := ih ht hseq fun _ => hlt
    rw [Nat.mul_succ, Nat.add_comm]
    exact ⟨u, harms.trans hrest, huseq, hu⟩

/-- The remainder, if there is one (R225). -/
theorem remainder (h : MoveReady c i s) (hs : s.seq = .to i .remainder 0 rem half) (hlt : rem < 2 ^ 32) :
    ∃ t n, n ≤ 3 ∧ Arms i s n (if rem = 0 then [] else [(rem, .none)]) t ∧ t.seq = .to i .remainder 0 0 half ∧
      MoveReady c i t := by
  by_cases hrem : rem = 0
  · subst hrem
    exact ⟨s, 0, Nat.zero_le 3, .refl i s, hs, h⟩
  · obtain ⟨t, harms, hseq, ht⟩ :=
      h.burst hrem hlt (sequencerStep_to_remainder_of_pos hs (Nat.pos_of_ne_zero hrem))
    rw [if_neg hrem]
    exact ⟨t, 3, le_rfl, harms, hseq, ht⟩

/-- The end of the acceleration half (R224). -/
theorem accelDone (h : MoveReady c i s) (hs : s.seq = .to i .accel 0 rem half) :
    ∃ t, Arms i s 1 [] t ∧ t.seq = .to i .remainder 0 rem half ∧ MoveReady c i t :=
  ⟨_, .step h.idle (sequencerStep_to_accel_zero hs), rfl, h.cfg, h.slot, h.configured, h.idle, h.chan, h.clean⟩

/-- The turn to deceleration (R225). -/
theorem turn (h : MoveReady c i s) (hs : s.seq = .to i .remainder 0 0 half) :
    ∃ t, Arms i s 1 [] t ∧ t.seq = .to i .decel half 0 half ∧ MoveReady c i t :=
  ⟨_, .step h.idle (sequencerStep_to_remainder_zero hs), rfl, h.of_dev_eq_set rfl rfl h.idle rfl rfl rfl rfl⟩

/-- The whole move: one half of ramp bursts, the remainder, the other half. -/
theorem move (h : MoveReady c i s) (hs : s.seq = .to i .accel half rem half) (hpos : 0 < c.numSteps)
    (hlt : half ≠ 0 → c.numSteps < 2 ^ 32) (hrem : rem < 2 ^ 32) :
    ∃ t n, n ≤ 6 * half + 6 ∧
      Arms i s n (List.replicate half (c.numSteps, .ramp) ++ (if rem = 0 then [] else [(rem, .none)]) ++
        List.replicate half (c.numSteps, .ramp)) (finished t (won 0#32 0#32)) ∧ MoveReady c i t := by
  obtain ⟨t, hup, hseq, ht⟩ := h.ramps hs (by decide) hpos hlt
  obtain ⟨u, hdone, hseq, hu⟩ := ht.accelDone hseq
  obtain ⟨v, n, hn, hone, hseq, hv⟩ := hu.remainder hseq hrem
  obtain ⟨w, hturn, hseq, hw⟩ := hv.turn hseq
  obtain ⟨z, hdown, hseq, hz⟩ := hw.ramps hseq (by decide) hpos hlt
  have hend := Arms.step hz.idle (sequencerStep_to_decel_zero hseq)
  have harms := (hup.trans hdone).trans (hone.trans (hturn.trans (hdown.trans hend)))
  simp only [List.append_nil, List.nil_append, ← List.append_assoc] at harms
  exact ⟨z, _, by omega, harms, hz⟩

end MoveReady

/-- The steps dispatched: an odd slice is not (R227). -/
theorem sum_bursts (steps size : Nat) :
    ((List.replicate (steps / size / 2) (size, Callback.ramp) ++
      (if steps % size = 0 then [] else [(steps % size, Callback.none)]) ++
      List.replicate (steps / size / 2) (size, Callback.ramp)).map Prod.fst).sum =
      if steps / size % 2 = 0 then steps else steps - size := by
  have hsteps := Nat.div_add_mod steps size
  have hslices := Nat.div_add_mod (steps / size) 2
  have hrem : ((if steps % size = 0 then [] else [(steps % size, Callback.none)]).map Prod.fst).sum = steps % size := by
    split_ifs with h <;> simp [h]
  rw [← hslices] at hsteps
  simp only [List.map_append, List.sum_append, hrem, List.map_replicate, List.sum_replicate, smul_eq_mul]
  split_ifs with hodd
  · rw [hodd] at hsteps
    linarith
  · rw [Nat.mod_two_ne_zero.1 hodd] at hsteps
    refine Nat.eq_sub_of_add_eq ?_
    linarith

/-- Settles O49: the bursts of the whole move, and their sum. -/
theorem moveToDispatchesItsBursts : Obligations.MoveToDispatchesItsBursts := by
  intro s i steps hc hfault hu hconf hidle hchan hsteps half rem hs out
  have hready : MoveReady s.cfg i s := ⟨rfl, State.lt_of_inUse hu, hconf, hidle, hchan, hfault⟩
  have hfits : half ≠ 0 → s.cfg.numSteps < 2 ^ 32 := fun hhalf => by
    by_contra hbig
    have hnone : steps / s.cfg.numSteps = 0 := Nat.div_eq_of_lt (by omega)
    exact hhalf (by simp [half, hnone])
  have hrem : rem < 2 ^ 32 := (Nat.mod_le ..).trans_lt hsteps
  obtain ⟨t, n, hn, harms, ht⟩ := hready.move hs (Cfg.numSteps_pos hc) hfits hrem
  have hout : out = _ := harms.soloBursts_eq rfl ht.idle (hn.trans (by omega))
  rw [hout]
  exact ⟨rfl, rfl, rfl, rfl, ht.clean, sum_bursts steps s.cfg.numSteps⟩

end Sys2Proof.Machine

/-! # The multi-axis coordinator

MOVE_MULTI: its checks as one chain of propositions (`exec_moveMulti`), the context its acceptance computes, what the
prologue and the turn write on all axes at once (`foldl_rewritten`), and the sequencer's steps, each by the branch its
context chooses. The bursts of a whole move come last: a slice is a round for each axis (`Leads.round`), a half is its
slices (`Leads.half`), and a move is its halves with the remainder and the turn between them (`MultiAt.move`). -/

namespace Sys2Proof.Machine

open Sys2Proof.Safety Sys2Proof.Claims

/-! ## The checks (45_multi_axis.md R241, R242) -/

/-- Handles are distinct exactly when the slots they name are. -/
theorem axisTargets_nodup_iff (axes : List (Byte × Word)) :
    ((axisTargets axes).map (·.1)).Nodup ↔ (axes.map Prod.fst).Nodup := by
  have hslots : (axisTargets axes).map (·.1) = (axes.map Prod.fst).map BitVec.toNat := by simp [axisTargets]
  rw [hslots, List.nodup_map_iff fun _ _ => BitVec.eq_of_toNat_eq]

theorem all_validHandle_iff (s : State) (axes : List (Byte × Word)) :
    (axes.all fun a => s.validHandle a.1) = true ↔ ∀ a ∈ axes, Claimed s a.1 := by
  simp only [List.all_eq_true, validHandle_iff]

theorem all_atTarget_iff (s : State) (axes : List (Byte × Word)) :
    (axisTargets axes).all s.atTarget = true ↔ ∀ a ∈ axes, a.2 = (s.device a.1.toNat).position := by
  simp [axisTargets, State.atTarget]

theorem all_axisReady_iff (s : State) (axes : List (Byte × Word)) :
    (axisTargets axes).all s.axisReady = true ↔
      ∀ a ∈ axes, (s.device a.1.toNat).configured = true ∧ (s.device a.1.toNat).minSpeed ≠ none ∧
        (s.device a.1.toNat).maxSpeed ≠ none := by
  simp [axisTargets, State.axisReady, Option.isSome_iff_ne_none, and_assoc]

theorem any_running_iff (s : State) (axes : List (Byte × Word)) :
    ((axisTargets axes).any fun a => (s.device a.1).running) = true ↔
      ∃ a ∈ axes, (s.device a.1.toNat).running = true := by
  simp [axisTargets]

/-- MOVE_MULTI at its acceptance: the checks in their order, then the prologue's writes. -/
theorem exec_moveMulti (s : State) (q : Bool) (axes : List (Byte × Word)) :
    exec (.moveMulti q axes) s =
      if s.cfg.nDev < axes.length then .next (done s (lost 6#8))
      else if ¬∀ a ∈ axes, Claimed s a.1 then .next (done s (lost 2#8))
      else if ¬(axes.map Prod.fst).Nodup then .next (done s (lost 6#8))
      else if ∀ a ∈ axes, a.2 = (s.device a.1.toNat).position then .next (done s (won 0#32 0#32))
      else if ¬∀ a ∈ axes, (s.device a.1.toNat).configured = true ∧ (s.device a.1.toNat).minSpeed ≠ none ∧
        (s.device a.1.toNat).maxSpeed ≠ none then .next (done s (lost 5#8))
      else if ∃ a ∈ axes, (s.device a.1.toNat).running = true then .next (done s (lost 3#8))
      else .next (started (s.beginMulti (axisTargets axes)) (.multi (s.multiCtx q (axisTargets axes)) .accel
        (s.multiCtx q (axisTargets axes)).half 0 [])) := by
  simp only [← all_validHandle_iff, ← axisTargets_nodup_iff, ← all_atTarget_iff, ← all_axisReady_iff,
    ← any_running_iff]
  change macroCommand s (moveMultiPrologue q axes s) = _
  simp only [moveMultiPrologue, Bool.not_eq_true', decide_eq_false_iff_not, Bool.not_eq_true]
  split_ifs <;> rfl

/-- Settles O50: each clause chooses its branch of the chain. -/
theorem moveMultiChecksInOrder : Obligations.MoveMultiChecksInOrder := by
  intro s q axes dev
  rw [exec_moveMulti]
  refine ⟨fun hmany => if_pos hmany, fun hfew hbad => ?handle, fun hfew hclaimed => ?claimed⟩
  case handle =>
    rw [if_neg (Nat.not_lt.2 hfew), if_pos (by simpa only [not_forall, exists_prop] using hbad)]
  case claimed =>
    rw [if_neg (Nat.not_lt.2 hfew), if_neg (not_not_intro hclaimed)]
    refine ⟨fun hrep => if_pos hrep, fun hnd hat => ?_, fun hnd ⟨a, ha, haway⟩ => ?_⟩
    · rw [if_neg (not_not_intro hnd), if_pos hat]
    rw [if_neg (not_not_intro hnd), if_neg fun hat => haway (hat a ha)]
    refine ⟨fun ⟨b, hb, hlacks⟩ => if_pos fun hready => ?_, fun hready hrun => ?_⟩
    · obtain ⟨hconf, hmin, hmax⟩ := hready b hb
      obtain h | h | h := hlacks
      · exact absurd (h.symm.trans hconf) Bool.false_ne_true
      · exact hmin h
      · exact hmax h
    · rw [if_neg (not_not_intro hready), if_pos hrun]

/-! ## The context (R243 to R245) -/

theorem mostSteps_eq (s : State) (axes : List (Byte × Word)) : s.mostSteps (axisTargets axes) = maxDist s axes := by
  rw [State.mostSteps, ← List.foldl_map (g := max), List.foldl_eq_foldr, maxDist, axisTargets, List.map_map]
  rfl

theorem accelerationSteps_eq (s : State) (axes : List (Byte × Word)) :
    s.accelerationSteps (axisTargets axes) = accelSteps s axes := by
  rw [State.accelerationSteps, mostSteps_eq]
  simp [accelSteps, axisTargets]

theorem multiCtx_eq (s : State) (q : Bool) (axes : List (Byte × Word)) :
    s.multiCtx q (axisTargets axes) = multiContext s q axes := by
  rw [State.multiCtx, accelerationSteps_eq, mostSteps_eq, axisTargets, List.map_map]
  rfl

/-- No axis goes further than the longest (R244). -/
theorem dist_le_maxDist (s : State) {axes : List (Byte × Word)} {a : Byte × Word} (ha : a ∈ axes) :
    (a.2.toInt - (s.device a.1.toNat).position.toInt).natAbs ≤ maxDist s axes := by
  obtain ⟨-, -, hall⟩ := foldl_max_bounds (f := s.axisDist) (fun _ => distance_lt _ _) (axisTargets axes) 0 (by decide)
  have hle : s.axisDist (a.1.toNat, a.2) ≤ s.mostSteps (axisTargets axes) := hall _ (List.mem_map_of_mem ha)
  rwa [mostSteps_eq] at hle

/-- The two halves of an axis's slices fit in its distance (R252 (a)). -/
theorem two_halves_le (n dist : Nat) : 2 * (n / 2 * perSlice n dist) ≤ dist := by
  unfold perSlice
  split_ifs with hn
  · simp
  calc 2 * (n / 2 * (dist / n)) = 2 * (n / 2) * (dist / n) := (Nat.mul_assoc ..).symm
    _ ≤ n * (dist / n) := Nat.mul_le_mul_right _ (Nat.mul_div_le n 2)
    _ ≤ dist := Nat.mul_div_le dist n

/-- A slice is no longer than the distance (R245). -/
theorem perSlice_le (n dist : Nat) : perSlice n dist ≤ dist := by
  unfold perSlice
  split_ifs
  · exact Nat.zero_le dist
  · exact Nat.div_le_self dist n

/-- Settles O53: the context is the rules', and its halves fit. -/
theorem multiContextHalvesFitTheDistance : Obligations.MultiContextHalvesFitTheDistance := by
  intro s q axes _ ctx
  have hctx : ctx = multiContext s q axes := multiCtx_eq s q axes
  clear_value ctx
  subst hctx
  refine ⟨rfl, List.forall_mem_map.2 fun b hb => ⟨dist_le_maxDist s hb, rfl, ?_⟩⟩
  have hfit := two_halves_le (accelSteps s axes) (b.2.toInt - (s.device b.1.toNat).position.toInt).natAbs
  rw [perSlice] at hfit
  refine ⟨hfit, ?_, fun hnone => if_pos hnone, fun (hdist : Int.natAbs _ = 0) => ?_⟩
  · simp only [multiContext]
    omega
  · simp only [hdist, Nat.zero_div, ite_self]

/-! ## Writes to every axis (R246, R250) -/

/-- `t` is `s` with the slot of each `a` in `l` rewritten to the record `d a`. -/
structure Rewritten {α : Type} (slot : α → Nat) (d : α → Device) (l : List α) (s t : State) : Prop where
  rest : t = { s with dev := t.dev }
  length : t.dev.length = s.dev.length
  written : ∀ a ∈ l, t.device (slot a) = d a
  kept : ∀ j, (∀ a ∈ l, slot a ≠ j) → t.device j = s.device j

/-- A fold whose step writes to the slot of its axis the record that the axis's old record determines. -/
theorem foldl_rewritten {α : Type} {f : State → α → State} {slot : α → Nat} {d : α → Device} {l : List α} {s : State}
    (hf : ∀ a ∈ l, ∀ u : State, u = { s with dev := u.dev } → u.dev.length = s.dev.length →
      u.device (slot a) = s.device (slot a) → f u a = u.setDevice (slot a) (d a))
    (hnd : (l.map slot).Nodup) (hlt : ∀ a ∈ l, slot a < s.dev.length) : Rewritten slot d l s (l.foldl f s) := by
  induction l using List.reverseRecOn with
  | nil => exact ⟨rfl, rfl, List.forall_mem_nil _, fun _ _ => rfl⟩
  | append_singleton l a ih =>
    rw [List.map_append, List.nodup_append] at hnd
    obtain ⟨hnd, -, hnew⟩ := hnd
    have hother : ∀ b ∈ l, slot b ≠ slot a := fun b hb =>
      hnew _ (List.mem_map_of_mem hb) _ (List.mem_singleton.2 rfl)
    obtain ⟨hfl, hfa⟩ := List.forall_mem_append.1 hf
    obtain ⟨hltl, hlta⟩ := List.forall_mem_append.1 hlt
    have ht := ih hfl hnd hltl
    rw [List.foldl_append, List.foldl_cons, List.foldl_nil]
    generalize l.foldl f s = t at ht
    have hslot : slot a < t.dev.length := (List.forall_mem_singleton.1 hlta).trans_eq ht.length.symm
    rw [List.forall_mem_singleton.1 hfa t ht.rest ht.length (ht.kept _ hother)]
    refine ⟨?_, (State.dev_length_eq_of_shape (t.setDevice_shape ..)).trans ht.length, ?_, fun j hj => ?_⟩
    · rw [ht.rest]
      rfl
    · refine List.forall_mem_append.2 ⟨fun b hb => ?_, List.forall_mem_singleton.2 (State.device_setDevice_self hslot)⟩
      rw [State.device_setDevice_ne (hother b hb).symm, ht.written b hb]
    · obtain ⟨hjl, hja⟩ := List.forall_mem_append.1 hj
      rw [State.device_setDevice_ne (hja a List.mem_cons_self), ht.kept j hjl]

/-- The prologue's writes on one axis are one write of its record (R244, R246). -/
theorem beginAxis_eq {s : State} {a : AxisTarget} {m : Word} (hi : a.1 < s.dev.length)
    (hmin : (s.device a.1).minSpeed = some m) (hm : s.cfg.rateDelay m < 2 ^ 30) (most : Nat) :
    State.beginAxis most s a = s.setDevice a.1 (axisBegun s most a.2 (s.device a.1)) := by
  cases hreset : s.cfg.multiResetsDelay with
  | false =>
    simp only [State.beginAxis, hreset, State.clearStack, State.modDevice, State.device_setDevice_self hi,
      State.setDevice_setDevice, axisBegun, Device.recompute, encodeControl_eq_ofNat]
    rfl
  | true =>
    simp only [State.beginAxis, hreset, hmin, if_true, State.clearStack, State.modDevice, setDelay_setDevice hi hm,
      State.device_setDevice_self hi, State.setDevice_setDevice, axisBegun]
    rfl

/-- What the prologue makes of a record rests on the configuration alone. -/
theorem axisBegun_congr {s u : State} (h : u.cfg = s.cfg) : axisBegun u = axisBegun s := by
  funext most target d
  simp only [axisBegun, clamped, h]

/-- The writes of an accepted MOVE_MULTI (R244 to R246). -/
theorem beginMulti_rewritten {s : State} {axes : List (Byte × Word)} (hnd : (axes.map Prod.fst).Nodup)
    (hclaimed : ∀ a ∈ axes, Claimed s a.1)
    (hmin : ∀ a ∈ axes, ∃ m, (s.device a.1.toNat).minSpeed = some m ∧ s.cfg.rateDelay m < 2 ^ 30) :
    Rewritten Prod.fst (fun a => axisBegun s (maxDist s axes) a.2 (s.device a.1)) (axisTargets axes) s
      (s.beginMulti (axisTargets axes)) := by
  rw [State.beginMulti, mostSteps_eq]
  have hlt : ∀ a ∈ axisTargets axes, a.1 < s.dev.length :=
    List.forall_mem_map.2 fun a ha => lt_of_claimed (hclaimed a ha)
  refine foldl_rewritten (fun a ha u hu hlen hdev => ?_) ((axisTargets_nodup_iff axes).2 hnd) hlt
  obtain ⟨b, hb, rfl⟩ := List.mem_map.1 ha
  obtain ⟨m, hm, hrate⟩ := hmin b hb
  have hcfg : u.cfg = s.cfg := by rw [hu]
  rw [beginAxis_eq ((hlt _ ha).trans_eq hlen.symm) (hdev ▸ hm) (hcfg ▸ hrate), hdev, axisBegun_congr hcfg]

/-- MOVE_MULTI accepted. -/
theorem exec_moveMulti_of_ready {s : State} {axes : List (Byte × Word)} (hn : axes.length ≤ s.cfg.nDev)
    (hclaimed : ∀ a ∈ axes, Claimed s a.1) (hnd : (axes.map Prod.fst).Nodup)
    (haway : ∃ a ∈ axes, a.2 ≠ (s.device a.1.toNat).position)
    (hready : ∀ a ∈ axes, (s.device a.1.toNat).configured = true ∧ (s.device a.1.toNat).minSpeed ≠ none ∧
      (s.device a.1.toNat).maxSpeed ≠ none)
    (hidle : ∀ a ∈ axes, (s.device a.1.toNat).running = false) (q : Bool) :
    exec (.moveMulti q axes) s = .next (started (s.beginMulti (axisTargets axes))
      (.multi (multiContext s q axes) .accel (accelSteps s axes / 2) 0 [])) := by
  obtain ⟨a, ha, haway⟩ := haway
  rw [exec_moveMulti, if_neg (Nat.not_lt.2 hn), if_neg (not_not_intro hclaimed), if_neg (not_not_intro hnd),
    if_neg fun hat => haway (hat a ha), if_neg (not_not_intro hready),
    if_neg fun ⟨b, hb, hrun⟩ => ne_true_of_eq_false (hidle b hb) hrun, multiCtx_eq]
  rfl

/-- Settles O51: the chain comes to its end, whose writes are one record for each axis. -/
theorem moveMultiStartsEveryAxis : Obligations.MoveMultiStartsEveryAxis := by
  intro s q axes hn haxes hnd haway
  have hclaimed : ∀ a ∈ axes, Claimed s a.1 := fun a ha => (haxes a ha).1
  have hmin : ∀ a ∈ axes, ∃ m, (s.device a.1.toNat).minSpeed = some m ∧ s.cfg.rateDelay m < 2 ^ 30 := fun a ha => by
    obtain ⟨-, -, -, hmin, -⟩ := haxes a ha
    exact hmin
  have hready : ∀ a ∈ axes, (s.device a.1.toNat).configured = true ∧ (s.device a.1.toNat).minSpeed ≠ none ∧
      (s.device a.1.toNat).maxSpeed ≠ none := fun a ha => by
    obtain ⟨-, hconf, -, ⟨m, hmin, -⟩, hmax⟩ := haxes a ha
    exact ⟨hconf, Option.ne_none_iff_exists'.2 ⟨m, hmin⟩, hmax⟩
  have hidle : ∀ a ∈ axes, (s.device a.1.toNat).running = false := fun a ha => by
    obtain ⟨-, -, hidle, -⟩ := haxes a ha
    exact hidle
  obtain ⟨hrest, hlength, hwritten, hkept⟩ := beginMulti_rewritten hnd hclaimed hmin
  refine ⟨_, exec_moveMulti_of_ready hn hclaimed hnd haway hready hidle q, ?_, hlength,
    List.forall_mem_map.1 hwritten, fun j hj => hkept j (List.forall_mem_map.2 hj)⟩
  rw [hrest]
  rfl

/-! ## The sequencer's steps (R247 to R251) -/

section Multi

variable {s : State} {ctx : MultiCtx} {ph : Phase} {k j : Nat} {set : List Nat} {a : Axis}

/-- The two halves of a ramp. -/
theorem Phase.accel_or_decel (hph : ph ≠ .remainder) : ph = .accel ∨ ph = .decel := by
  cases ph with
  | accel => exact .inl rfl
  | decel => exact .inr rfl
  | remainder => exact absurd rfl hph

/-- After a ramp slice comes the next one (R247). -/
theorem afterSlice_ramp (hph : ph ≠ .remainder) (ctx : MultiCtx) (k : Nat) :
    afterSlice ctx ph k = .multi ctx ph (k - 1) 0 [] := by
  obtain rfl | rfl := Phase.accel_or_decel hph <;> rfl

/-- A ramp slice handles one axis, in either half (R247). -/
theorem sequencerStep_ramp (hs : s.seq = .multi ctx ph (k + 1) j set) (hph : ph ≠ .remainder)
    (ha : ctx.axes[j]? = some a) : sequencerStep s = some (rampAxis ctx ph (k + 1) j set a s) := by
  obtain rfl | rfl := Phase.accel_or_decel hph <;>
    simp only [sequencerStep, hs, multiStep, ha, Nat.succ_ne_zero, if_false]

/-- Above the threshold the axis is dispatched and debited (R247). -/
theorem sequencerStep_ramp_of_lt (hs : s.seq = .multi ctx ph (k + 1) j set) (hph : ph ≠ .remainder)
    (ha : ctx.axes[j]? = some a) (hper : s.cfg.minSlice < a.per) :
    sequencerStep s = some { s.seqDispatch a.slot a.per .ramp with
      seq := nextAxis { ctx with axes := ctx.axes.set j { a with remaining := a.remaining + -(2 * a.per) } } ph
        (k + 1) j set a.slot true } := by
  rw [sequencerStep_ramp hs hph ha, rampAxis, if_pos hper, MultiCtx.credit_eq ha]
  rfl

/-- At or below it the axis is credited and skipped (R247). -/
theorem sequencerStep_ramp_of_le (hs : s.seq = .multi ctx ph (k + 1) j set) (hph : ph ≠ .remainder)
    (ha : ctx.axes[j]? = some a) (hper : a.per ≤ s.cfg.minSlice) :
    sequencerStep s = some { s with
      seq := nextAxis { ctx with axes := ctx.axes.set j { a with remaining := a.remaining + 2 * a.per } } ph
        (k + 1) j set a.slot false } := by
  rw [sequencerStep_ramp hs hph ha, rampAxis, if_neg (Nat.not_lt.2 hper), MultiCtx.credit_eq ha]
  rfl

/-- The remainder handles one axis (R249). -/
theorem sequencerStep_remainder (hs : s.seq = .multi ctx .remainder k j set) (ha : ctx.axes[j]? = some a) :
    sequencerStep s = some (remainderAxis ctx k j set a s) := by
  simp only [sequencerStep, hs, multiStep, ha]

theorem sequencerStep_remainder_of_nonpos (hs : s.seq = .multi ctx .remainder k j set) (ha : ctx.axes[j]? = some a)
    (hrem : a.remaining ≤ 0) :
    sequencerStep s = some { s with seq := nextAxis ctx .remainder k j set a.slot false } := by
  rw [sequencerStep_remainder hs ha, remainderAxis, if_pos hrem]
  rfl

/-- The guard of the remainder (R249). -/
theorem sequencerStep_remainder_of_wide (hs : s.seq = .multi ctx .remainder k j set) (ha : ctx.axes[j]? = some a)
    (hrem : 2 ^ 32 - 1 < a.remaining) :
    sequencerStep s = some { s with
      fault := s.fault ||| 16#32, seq := nextAxis ctx .remainder k j set a.slot false } := by
  rw [sequencerStep_remainder hs ha, remainderAxis, if_neg (by omega), if_pos hrem]
  rfl

theorem sequencerStep_remainder_of_fits (hs : s.seq = .multi ctx .remainder k j set) (ha : ctx.axes[j]? = some a)
    (hpos : 0 < a.remaining) (hrem : a.remaining ≤ 2 ^ 32 - 1) :
    sequencerStep s = some { s.seqDispatch a.slot a.remaining.toNat .none with
      seq := nextAxis ctx .remainder k j set a.slot true } := by
  rw [sequencerStep_remainder hs ha, remainderAxis, if_neg (Int.not_le.2 hpos), if_neg (Int.not_lt.2 hrem)]
  rfl

/-- The end of the acceleration half. -/
theorem sequencerStep_multi_accel_zero (hs : s.seq = .multi ctx .accel 0 j set) :
    sequencerStep s = some { s with seq := .multi ctx .remainder 0 0 [] } := by
  simp only [sequencerStep, hs]
  cases ha : ctx.axes[j]? <;> simp only [multiStep, ha, if_true] <;> rfl

/-- The end of the move (R251). -/
theorem sequencerStep_multi_decel_zero (hs : s.seq = .multi ctx .decel 0 j set) :
    sequencerStep s = some (finished s (won 0#32 0#32)) := by
  simp only [sequencerStep, hs]
  cases ha : ctx.axes[j]? <;> simp only [multiStep, ha, if_true] <;> rfl

/-- The turn to deceleration after the last axis (R250). -/
theorem sequencerStep_multi_turn (hs : s.seq = .multi ctx .remainder k ctx.axes.length set) :
    sequencerStep s = some { s.turnAxes ctx.axes with seq := .multi ctx .decel ctx.half 0 [] } := by
  simp only [sequencerStep, hs, multiStep, List.getElem?_length]
  rfl

/-- The turn writes `accelDir` of every axis (R250). -/
theorem turnAxes_rewritten {axes : List Axis} (hnd : (axes.map Axis.slot).Nodup)
    (hlt : ∀ a ∈ axes, a.slot < s.dev.length) :
    Rewritten Axis.slot (fun a => { s.device a.slot with accelDir := .down }) axes s (s.turnAxes axes) :=
  foldl_rewritten (fun a _ u _ _ hdev => by rw [State.modDevice, hdev]) hnd hlt

/-- Settles O52: each state of the sequencer, and where it goes from there. -/
theorem moveMultiSequencerSteps : Obligations.MoveMultiSequencerSteps := by
  refine ⟨fun s ctx ph k j set a hs hph ha => ?ramp, fun s ctx k j set a hs ha => ?remainder,
    fun s ctx k set hs hnd hlt => ?turn, fun s ctx j set hs => sequencerStep_multi_accel_zero hs,
    fun s ctx j set hs => sequencerStep_multi_decel_zero hs, fun ctx ph k j set slot sent => ?onward⟩
  case ramp =>
    refine ⟨fun hper hc hr => ?_, fun hper hd => ?_, fun hper => sequencerStep_ramp_of_le hs hph ha hper⟩
    · rw [sequencerStep_ramp_of_lt hs hph ha hper, seqDispatch_of_idle hc hr (Nat.ne_zero_of_lt hper)]
      rfl
    · rw [sequencerStep_ramp_of_lt hs hph ha hper, seqDispatch_of_refused hd]
      rfl
  case remainder =>
    refine ⟨sequencerStep_remainder_of_nonpos hs ha, sequencerStep_remainder_of_wide hs ha,
      fun hpos hrem => ⟨fun hc hr => ?_, fun hd => ?_⟩⟩
    · rw [sequencerStep_remainder_of_fits hs ha hpos hrem, seqDispatch_of_idle hc hr (by omega)]
      rfl
    · rw [sequencerStep_remainder_of_fits hs ha hpos hrem, seqDispatch_of_refused hd]
      rfl
  case turn =>
    obtain ⟨hrest, -, hwritten, hkept⟩ := turnAxes_rewritten hnd hlt
    refine ⟨_, sequencerStep_multi_turn hs, ?_, hwritten, hkept⟩
    rw [hrest]
  case onward =>
    intro q set'
    refine ⟨fun hq hsent => ?_, fun hq hsent hj => ?_, fun hq hsent hj => ?_, fun hq hj => ?_, fun hq hj => ?_,
      fun hph => afterSlice_ramp hph ctx k, rfl⟩
    · simp only [q, nextAxis, hq, hsent, if_true]
    · simp [q, nextAxis, hq, hsent, hj]
    · simp [q, nextAxis, hq, hsent, Nat.not_lt.2 hj]
    · simp [q, nextAxis, hq, hj, set']
    · simp [q, nextAxis, hq, Nat.not_lt.2 hj, set']

end Multi

/-! ## Turns of an undisturbed move (R252) -/

/-- From `s`, every burst in flight being over once the sequencer waits, it comes to `t` in at most `n` turns and arms
the bursts `bs` on device `i` on the way. -/
def Joins (i : Nat) (s : State) (n : Nat) (bs : List (Nat × Callback)) (t : State) : Prop :=
  ∃ m ≤ n, ∀ fuel, joinedBursts i (m + fuel) s = (bs ++ (joinedBursts i fuel t).1, (joinedBursts i fuel t).2)

namespace Joins

variable {i n n' : Nat} {s t u : State} {bs bs' : List (Nat × Callback)}

theorem refl (i : Nat) (s : State) : Joins i s 0 [] s := ⟨0, le_rfl, fun fuel => by rw [Nat.zero_add, List.nil_append]⟩

theorem trans (h : Joins i s n bs t) (h' : Joins i t n' bs' u) : Joins i s (n + n') (bs ++ bs') u := by
  obtain ⟨m, hm, h⟩ := h
  obtain ⟨m', hm', h'⟩ := h'
  exact ⟨m + m', Nat.add_le_add hm hm', fun fuel => by rw [Nat.add_assoc, h, h', List.append_assoc]⟩

theorem mono (h : Joins i s n bs t) (hn : n ≤ n') : Joins i s n' bs t := by
  obtain ⟨m, hm, h⟩ := h
  exact ⟨m, hm.trans hn, h⟩

/-- A step of the sequencer. -/
theorem step (h : sequencerStep s = some t) : Joins i s 1 (burstArmed i s t) t :=
  ⟨1, le_rfl, fun fuel => by simp only [Nat.add_comm 1, joinedBursts, h]⟩

/-- A step that leaves the device idle or running arms nothing on it. -/
theorem quiet (h : sequencerStep s = some t) (hrun : (t.device i).running = (s.device i).running) :
    Joins i s 1 [] t := by
  have hnone : burstArmed i s t = [] := by
    rw [burstArmed, hrun, if_neg fun ⟨hidle, hrun⟩ => ne_true_of_eq_false hidle hrun]
  exact hnone ▸ .step h

/-- A wait of the sequencer, in which every burst in flight comes to its end. -/
theorem wait (h : sequencerStep s = none) : Joins i s 1 [] (allIdle s) :=
  ⟨1, le_rfl, fun fuel => by simp only [Nat.add_comm 1, joinedBursts, h, List.nil_append]⟩

end Joins

/-- Once the sequencer is idle nothing more is armed, and only `running` falls. -/
theorem joinedBursts_of_idle (i n : Nat) {s : State} (hs : s.seq = .idle) :
    ∃ dev, joinedBursts i n s = ([], { s with dev := dev }) := by
  induction n generalizing s with
  | zero => exact ⟨s.dev, rfl⟩
  | succ n ih =>
    have hnone : sequencerStep s = none := by simp only [sequencerStep, hs]
    obtain ⟨dev, h⟩ := ih (s := allIdle s) hs
    exact ⟨dev, by simp only [joinedBursts, hnone, h]; rfl⟩

/-- The bursts of a move that has come to its end. -/
theorem Joins.joinedBursts_eq {i n fuel : Nat} {s t : State} {bs : List (Nat × Callback)} (h : Joins i s n bs t)
    (ht : t.seq = .idle) (hn : n ≤ fuel) : ∃ dev, joinedBursts i fuel s = (bs, { t with dev := dev }) := by
  obtain ⟨m, hm, h⟩ := h
  obtain ⟨dev, hend⟩ := joinedBursts_of_idle i (fuel - m) ht
  exact ⟨dev, by rw [← Nat.add_sub_cancel' (hm.trans hn), h, hend, List.append_nil]⟩

theorem device_allIdle (s : State) (i : Nat) : (allIdle s).device i = { s.device i with running := false } :=
  List.getD_map (n := i) s.dev Device.reset fun d => ({ d with running := false } : Device)

theorem State.armed_shape (s : State) (i n : Nat) (cb : Callback) : (s.armed i n cb).shape = s.shape := by
  simp [State.armed]

theorem allIdle_shape (s : State) : (allIdle s).shape = s.shape := by
  simp [State.shape, allIdle]

/-- A step that dispatches a burst on an idle device arms it there and nowhere else. -/
theorem Joins.dispatch {i slot n : Nat} {cb : Callback} {s : State} {q : Seq} (hslot : slot < s.dev.length)
    (hchan : (s.device slot).ccChan < s.xfer.length) (hidle : (s.device slot).running = false) (hn : n < 2 ^ 32)
    (h : sequencerStep s = some { s.armed slot n cb with seq := q }) :
    Joins i s 1 (if slot = i then [(n, cb)] else []) { s.armed slot n cb with seq := q } := by
  by_cases hi : slot = i
  · subst hi
    have hself : ({ s.armed slot n cb with seq := q } : State).device slot = _ := State.armed_device hslot n cb
    have hcount := congrArg (·.count.toNat) (State.armed_xferOf hchan n cb)
    have harmed : burstArmed slot s { s.armed slot n cb with seq := q } = [(n, cb)] := by
      rw [burstArmed, hself, if_pos ⟨hidle, rfl⟩]
      exact congrArg (fun k => [(k, cb)]) (hcount.trans (wordOf_toNat hn))
    rw [if_pos rfl, ← harmed]
    exact .step h
  · rw [if_neg hi]
    exact .quiet h (congrArg Device.running (State.device_setDevice_ne hi))

/-- The slots MOVE_MULTI waits for, or is to wait for. -/
def Seq.awaited : Seq → List Nat
  | .multi _ _ _ _ set | .multiWait _ _ _ _ set => set
  | .idle | .block _ _ _ _ _ | .blockDrain _ _ | .waitIdle _ | .to _ _ _ _ _ | .toWait _ _ _ _ _ => []

/-- MOVE_MULTI runs on `slots` and has come to `q` with fault word `f`: each of its devices can be dispatched, and none
runs that is not waited for. -/
structure MultiAt (c : Cfg) (slots : List Nat) (q : Seq) (f : Word) (s : State) : Prop where
  cfg : s.cfg = c
  seq : s.seq = q
  fault : s.fault = f
  slot : ∀ i ∈ slots, i < s.dev.length
  configured : ∀ i ∈ slots, (s.device i).configured = true
  chan : ∀ i ∈ slots, (s.device i).ccChan < s.xfer.length
  idle : ∀ i ∈ slots, i ∉ q.awaited → (s.device i).running = false

/-- From everywhere at `q` with `f` the sequencer comes to `q'` with `f'` in at most `n` turns, arming `bs` on `i`. -/
def Leads (c : Cfg) (slots : List Nat) (i : Nat) (q : Seq) (f : Word) (n : Nat) (bs : List (Nat × Callback)) (q' : Seq)
    (f' : Word) : Prop :=
  ∀ s, MultiAt c slots q f s → ∃ t, Joins i s n bs t ∧ MultiAt c slots q' f' t

section Turns

variable {c : Cfg} {slots : List Nat} {i n n' : Nat} {q q' q'' : Seq} {f f' f'' : Word} {bs bs' : List (Nat × Callback)}
  {s t : State}

/-- Being ready rests on the shape, on the program and the channel of each device, and on which devices run. -/
theorem MultiAt.of_shape (h : MultiAt c slots q f s) (hshape : t.shape = s.shape)
    (hheld : ∀ i ∈ slots, (t.device i).configured = (s.device i).configured ∧ (t.device i).ccChan = (s.device i).ccChan)
    (hidle : ∀ i ∈ slots, i ∉ q'.awaited → (t.device i).running = false) (hseq : t.seq = q' := by rfl)
    (hfault : t.fault = f' := by rfl) : MultiAt c slots q' f' t where
  cfg := (State.cfg_eq_of_shape hshape).trans h.cfg
  seq := hseq
  fault := hfault
  slot i hi := (h.slot i hi).trans_eq (State.dev_length_eq_of_shape hshape).symm
  configured i hi := (hheld i hi).1.trans (h.configured i hi)
  chan i hi := by
    have hxfer : t.xfer.length = s.xfer.length := congrArg Shape.xfer hshape
    rw [(hheld i hi).2, hxfer]
    exact h.chan i hi
  idle := hidle

namespace Leads

theorem refl : Leads c slots i q f 0 [] q f := fun s hs => ⟨s, .refl i s, hs⟩

theorem trans (h : Leads c slots i q f n bs q' f') (h' : Leads c slots i q' f' n' bs' q'' f'') :
    Leads c slots i q f (n + n') (bs ++ bs') q'' f'' := fun s hs => by
  obtain ⟨t, hst, ht⟩ := h s hs
  obtain ⟨u, htu, hu⟩ := h' t ht
  exact ⟨u, hst.trans htu, hu⟩

theorem mono (h : Leads c slots i q f n bs q' f') (hn : n ≤ n') : Leads c slots i q f n' bs q' f' := fun s hs => by
  obtain ⟨t, hst, ht⟩ := h s hs
  exact ⟨t, hst.mono hn, ht⟩

/-- A step that writes the sequencer state, and the fault word at most besides. -/
theorem quiet (h : ∀ s, MultiAt c slots q f s → sequencerStep s = some { s with fault := f', seq := q' })
    (hset : ∀ i ∈ q.awaited, i ∈ q'.awaited) : Leads c slots i q f 1 [] q' f' := fun s hs =>
  ⟨_, .quiet (h s hs) rfl,
    hs.of_shape rfl (fun _ _ => ⟨rfl, rfl⟩) fun i hi hni => hs.idle i hi fun hq => hni (hset i hq)⟩

/-- A step that dispatches a burst on an idle device, which is then waited for. -/
theorem dispatch {slot : Nat} {cb : Callback}
    (h : ∀ s, MultiAt c slots q f s → sequencerStep s = some { s.seqDispatch slot n cb with seq := q' })
    (hslot : slot ∈ slots) (hidle : slot ∉ q.awaited) (hn : n ≠ 0) (hlt : n < 2 ^ 32)
    (hset : ∀ i ∈ q.awaited ++ [slot], i ∈ q'.awaited) :
    Leads c slots i q f 1 (if slot = i then [(n, cb)] else []) q' f := fun s hs => by
  have hready : (s.device slot).running = false := hs.idle slot hslot hidle
  have hstep := h s hs
  rw [seqDispatch_of_idle (hs.configured slot hslot) hready hn] at hstep
  refine ⟨_, .dispatch (hs.slot slot hslot) (hs.chan slot hslot) hready hlt hstep,
    hs.of_shape (s.armed_shape ..) (fun j _ => ⟨?_, ?_⟩) (fun j hj hnj => ?_) rfl hs.fault⟩
  · exact s.device_armed_congr slot n cb Device.configured j
  · exact s.device_armed_congr slot n cb Device.ccChan j
  · have hne : slot ≠ j := fun he => hnj (hset j (by simp [he]))
    exact (congrArg Device.running (State.device_setDevice_ne hne)).trans
      (hs.idle j hj fun hq => hnj (hset j (List.mem_append_left _ hq)))

end Leads

end Turns

/-! ## The rounds of a move (R247 to R250) -/

/-- Where the sequencer is when the next axis is `j`: there, or past the slice. -/
def onward (ctx : MultiCtx) (ph : Phase) (k j : Nat) (set : List Nat) : Seq :=
  if j < ctx.axes.length then .multi ctx ph k j set else afterSlice ctx ph k

/-- What is made of an axis whose `k` ramp slices have been handled: debited for each, or credited (R247). -/
def Axis.credited (c : Cfg) (a : Axis) (k : Nat) : Axis :=
  { a with remaining := a.remaining + k * (if c.minSlice < a.per then -(2 * (a.per : Int)) else 2 * a.per) }

/-- What is made of an axis handled in phase `ph`. -/
def Axis.handled (c : Cfg) (ph : Phase) (a : Axis) : Axis :=
  match ph with
  | .accel | .decel => a.credited c 1
  | .remainder => a

/-- The bursts dispatched on an axis in `k` ramp slices (R247). -/
def Axis.ramps (c : Cfg) (a : Axis) (k : Nat) : List (Nat × Callback) :=
  if c.minSlice < a.per then List.replicate k (a.per, .ramp) else []

theorem Axis.ramps_succ (c : Cfg) (a : Axis) (k : Nat) : a.ramps c (k + 1) = a.ramps c 1 ++ a.ramps c k := by
  unfold Axis.ramps
  split_ifs <;> rfl

/-- The bursts dispatched on an axis handled in phase `ph` (R247, R249). -/
def Axis.bursts (c : Cfg) (ph : Phase) (a : Axis) : List (Nat × Callback) :=
  match ph with
  | .accel | .decel => a.ramps c 1
  | .remainder => if 0 < a.remaining ∧ a.remaining ≤ 2 ^ 32 - 1 then [(a.remaining.toNat, .none)] else []

theorem Axis.handled_ramp {ph : Phase} (hph : ph ≠ .remainder) (c : Cfg) (a : Axis) :
    a.handled c ph = a.credited c 1 := by
  obtain rfl | rfl := Phase.accel_or_decel hph <;> rfl

theorem Axis.bursts_ramp {ph : Phase} (hph : ph ≠ .remainder) (c : Cfg) (a : Axis) :
    a.bursts c ph = a.ramps c 1 := by
  obtain rfl | rfl := Phase.accel_or_decel hph <;> rfl

/-- The guard of the remainder refuses the axis (R249). -/
abbrev Axis.Guarded (ph : Phase) (a : Axis) : Prop := ph = .remainder ∧ 2 ^ 32 - 1 < a.remaining

/-- The fault word after axes of which some were refused by the guard, or none. -/
def guarded (f : Word) (p : Prop) [Decidable p] : Word := if p then f ||| 16#32 else f

theorem guarded_of_not (f : Word) {p : Prop} [Decidable p] (hp : ¬p) : guarded f p = f := if_neg hp

theorem guarded_congr (f : Word) {p q : Prop} [Decidable p] [Decidable q] (h : p ↔ q) : guarded f p = guarded f q := by
  simp only [guarded, h]

theorem guarded_guarded (f : Word) (p q : Prop) [Decidable p] [Decidable q] :
    guarded (guarded f p) q = guarded f (p ∨ q) := by
  by_cases hp : p <;> by_cases hq : q <;> simp [guarded, hp, hq, BitVec.or_assoc]

/-- An axis that has been handled is waited for, or the next one is at hand (R247, R248). -/
theorem nextAxis_cases {ctx : MultiCtx} {ph : Phase} {k j slot : Nat} {set set' : List Nat} {sent : Bool}
    (hset : ctx.sequential = true → set = []) (hset' : set' = if sent then set ++ [slot] else set) :
    nextAxis ctx ph k j set slot sent = .multiWait ctx ph k (j + 1) set' ∨
      nextAxis ctx ph k j set slot sent = onward ctx ph k (j + 1) set' ∧ (ctx.sequential = true → set' = []) ∧
        (ctx.axes.length ≤ j + 1 → set' = []) := by
  subst hset'
  cases hseq : ctx.sequential with
  | true =>
    obtain rfl := hset hseq
    cases sent with
    | true => exact .inl (by simp [nextAxis, hseq])
    | false => exact .inr (by simp [nextAxis, hseq, onward])
  | false =>
    by_cases hj : j + 1 < ctx.axes.length
    · exact .inr (by simp [nextAxis, hseq, onward, hj])
    · exact .inl (by simp [nextAxis, hseq, hj])

/-- The slots dispatched are waited for. -/
theorem awaited_nextAxis {ctx : MultiCtx} {ph : Phase} {k j slot : Nat} {set set' : List Nat} {sent : Bool}
    (hset : ctx.sequential = true → set = []) (hset' : set' = if sent then set ++ [slot] else set) :
    ∀ l ∈ set', l ∈ (nextAxis ctx ph k j set slot sent).awaited := by
  obtain hq | ⟨hq, -, hlast⟩ := nextAxis_cases (ph := ph) (k := k) (j := j) hset hset'
  · rw [hq]
    exact fun l hl => hl
  · rw [hq, onward]
    split_ifs with hj
    · exact fun l hl => hl
    · rw [hlast (Nat.not_lt.1 hj)]
      exact List.forall_mem_nil _

/-- A wait for devices that are idle ends at once (R247). -/
theorem MultiAt.resume {c : Cfg} {slots : List Nat} {i k j : Nat} {f : Word} {ctx : MultiCtx} {ph : Phase}
    {set : List Nat} {s : State} (hs : MultiAt c slots (.multiWait ctx ph k j set) f s)
    (hidle : ∀ l ∈ set, (s.device l).running = false) :
    ∃ t, Joins i s 1 [] t ∧ MultiAt c slots (onward ctx ph k j []) f t := by
  have hstep := sequencerStep_multiWait hs.seq
  rw [if_neg fun ⟨l, hl, hrun⟩ => ne_true_of_eq_false (hidle l hl) hrun] at hstep
  refine ⟨_, .quiet hstep rfl, hs.of_shape rfl (fun _ _ => ⟨rfl, rfl⟩) (fun l hl _ => ?_) rfl hs.fault⟩
  by_cases hset : l ∈ set
  · exact hidle l hset
  · exact hs.idle l hl hset

namespace Leads

variable {c : Cfg} {slots : List Nat} {i k j : Nat} {f : Word} {ctx : MultiCtx} {ph : Phase} {set : List Nat} {a : Axis}

/-- A wait ends, at once or once every burst in flight is over (R247). -/
theorem wait : Leads c slots i (.multiWait ctx ph k j set) f 2 [] (onward ctx ph k j []) f := fun s hs => by
  by_cases hrun : ∃ l ∈ set, (s.device l).running = true
  · have hwait := sequencerStep_multiWait hs.seq
    rw [if_pos hrun] at hwait
    have hidle : ∀ l, ((allIdle s).device l).running = false := fun l => by rw [device_allIdle]
    have hall : MultiAt c slots (.multiWait ctx ph k j set) f (allIdle s) :=
      hs.of_shape (allIdle_shape s) (fun l _ => by rw [device_allIdle]; exact ⟨rfl, rfl⟩) (fun l _ _ => hidle l) hs.seq
        hs.fault
    obtain ⟨t, hjoins, ht⟩ := hall.resume fun l _ => hidle l
    exact ⟨t, (Joins.wait hwait).trans hjoins, ht⟩
  · obtain ⟨t, hjoins, ht⟩ := hs.resume fun l hl => eq_false_of_ne_true fun h => hrun ⟨l, hl, h⟩
    exact ⟨t, hjoins.mono (by decide), ht⟩

/-- An axis of a ramp slice is dispatched or skipped (R247). -/
theorem ramp (hph : ph ≠ .remainder) (ha : ctx.axes[j]? = some a) (hslot : a.slot ∈ slots) (hidle : a.slot ∉ set)
    (hper : a.per < 2 ^ 32) (hset : ctx.sequential = true → set = []) :
    ∃ sent, Leads c slots i (.multi ctx ph (k + 1) j set) f 1 (if a.slot = i then a.bursts c ph else [])
      (nextAxis { ctx with axes := ctx.axes.set j (a.handled c ph) } ph (k + 1) j set a.slot sent) f := by
  rw [Axis.bursts_ramp hph, Axis.ramps, List.replicate_one, Axis.handled_ramp hph, Axis.credited, Nat.cast_one, one_mul]
  by_cases hlt : c.minSlice < a.per
  · rw [if_pos hlt, if_pos hlt]
    exact ⟨true, dispatch (fun s hs => sequencerStep_ramp_of_lt hs.seq hph ha (hs.cfg ▸ hlt)) hslot hidle
      (Nat.ne_zero_of_lt hlt) hper (awaited_nextAxis hset rfl)⟩
  · rw [if_neg hlt, if_neg hlt, ite_self]
    exact ⟨false, quiet (fun s hs => hs.fault ▸ sequencerStep_ramp_of_le hs.seq hph ha (hs.cfg ▸ Nat.not_lt.1 hlt))
      (awaited_nextAxis hset rfl)⟩

/-- An axis of the remainder is dispatched, skipped or refused (R249). -/
theorem remainder (ha : ctx.axes[j]? = some a) (hslot : a.slot ∈ slots) (hidle : a.slot ∉ set)
    (hset : ctx.sequential = true → set = []) :
    ∃ sent, Leads c slots i (.multi ctx .remainder k j set) f 1 (if a.slot = i then a.bursts c .remainder else [])
      (nextAxis ctx .remainder k j set a.slot sent) (guarded f (a.Guarded .remainder)) := by
  simp only [Axis.bursts, Axis.Guarded, true_and, guarded]
  by_cases hfits : 0 < a.remaining ∧ a.remaining ≤ 2 ^ 32 - 1
  · obtain ⟨hpos, hle⟩ := id hfits
    rw [if_pos hfits, if_neg (Int.not_lt.2 hle)]
    exact ⟨true, dispatch (fun s hs => sequencerStep_remainder_of_fits hs.seq ha hpos hle) hslot hidle (by omega)
      (by omega) (awaited_nextAxis hset rfl)⟩
  rw [if_neg hfits, ite_self]
  by_cases hwide : 2 ^ 32 - 1 < a.remaining
  · rw [if_pos hwide]
    exact ⟨false, quiet (fun s hs => hs.fault ▸ sequencerStep_remainder_of_wide hs.seq ha hwide)
      (awaited_nextAxis hset rfl)⟩
  · rw [if_neg hwide]
    exact ⟨false, quiet (fun s hs => hs.fault ▸ sequencerStep_remainder_of_nonpos hs.seq ha (by omega))
      (awaited_nextAxis hset rfl)⟩

/-- An axis is handled, and the next one is at hand. -/
theorem round (hph : ph ≠ .remainder → k ≠ 0) (ha : ctx.axes[j]? = some a) (hslot : a.slot ∈ slots)
    (hidle : a.slot ∉ set) (hper : a.per < 2 ^ 32) (hset : ctx.sequential = true → set = []) :
    ∃ set', (∀ l ∈ set', l ∈ set ∨ l = a.slot) ∧ (ctx.sequential = true → set' = []) ∧
      Leads c slots i (.multi ctx ph k j set) f 3 (if a.slot = i then a.bursts c ph else [])
        (onward { ctx with axes := ctx.axes.set j (a.handled c ph) } ph k (j + 1) set')
        (guarded f (a.Guarded ph)) := by
  have haxis : ∃ sent, Leads c slots i (.multi ctx ph k j set) f 1 (if a.slot = i then a.bursts c ph else [])
      (nextAxis { ctx with axes := ctx.axes.set j (a.handled c ph) } ph k j set a.slot sent)
      (guarded f (a.Guarded ph)) := by
    by_cases hrem : ph = .remainder
    · subst hrem
      obtain ⟨hj, rfl⟩ := List.getElem?_eq_some_iff.1 ha
      simp only [Axis.handled, List.set_getElem_self]
      exact remainder ha hslot hidle hset
    · obtain ⟨k, rfl⟩ := Nat.exists_eq_succ_of_ne_zero (hph hrem)
      rw [guarded_of_not f fun h : a.Guarded ph => hrem h.1]
      exact ramp hrem ha hslot hidle hper hset
  obtain ⟨sent, haxis⟩ := haxis
  have hsub : ∀ l ∈ (if sent then set ++ [a.slot] else set), l ∈ set ∨ l = a.slot := fun l hl => by
    split at hl
    · simpa using hl
    · exact .inl hl
  obtain hq | ⟨hq, hseq, -⟩ := nextAxis_cases (ctx := { ctx with axes := ctx.axes.set j (a.handled c ph) }) (ph := ph)
    (k := k) (j := j) (slot := a.slot) (sent := sent) hset rfl
  · rw [hq] at haxis
    have hboth := haxis.trans wait
    rw [List.append_nil] at hboth
    exact ⟨[], List.forall_mem_nil _, fun _ => rfl, hboth⟩
  · rw [hq] at haxis
    exact ⟨_, hsub, hseq, haxis.mono (by decide)⟩

end Leads

/-- The bursts of device `i` where the axes `l` are handled in phase `ph`. -/
def burstsOn (c : Cfg) (ph : Phase) (i : Nat) (l : List Axis) : List (Nat × Callback) :=
  l.flatMap fun a => if a.slot = i then a.bursts c ph else []

/-- Where the slots are distinct the bursts of a device are those of its axis. -/
theorem burstsOn_slot {c : Cfg} {ph : Phase} {l : List Axis} {a : Axis} (hnd : (l.map Axis.slot).Nodup) (ha : a ∈ l) :
    burstsOn c ph a.slot l = a.bursts c ph := by
  obtain ⟨l₁, l₂, rfl⟩ := List.append_of_mem ha
  rw [List.map_append, List.map_cons, List.nodup_middle, List.nodup_cons, ← List.map_append, List.mem_map] at hnd
  have hother : ∀ b ∈ l₁ ++ l₂, (if b.slot = a.slot then b.bursts c ph else []) = [] := fun b hb =>
    if_neg fun he => hnd.1 ⟨b, hb, he⟩
  obtain ⟨h₁, h₂⟩ := List.forall_mem_append.1 hother
  rw [burstsOn, List.flatMap_append, List.flatMap_cons, if_pos rfl, List.flatMap_eq_nil_iff.2 h₁,
    List.flatMap_eq_nil_iff.2 h₂, List.nil_append, List.append_nil]

theorem Axis.handled_slot (c : Cfg) (ph : Phase) (a : Axis) : (a.handled c ph).slot = a.slot := by
  cases ph <;> rfl

theorem Axis.credited_zero (c : Cfg) (a : Axis) : a.credited c 0 = a := by
  simp [Axis.credited]

theorem Axis.credited_succ (c : Cfg) (a : Axis) (k : Nat) : (a.credited c 1).credited c k = a.credited c (k + 1) := by
  simp only [Axis.credited, Nat.cast_add, Nat.cast_one, add_mul, add_assoc, Int.add_comm]

/-- The context after `k` ramp slices of a half. -/
def MultiCtx.credited (c : Cfg) (ctx : MultiCtx) (k : Nat) : MultiCtx :=
  { ctx with axes := ctx.axes.map (Axis.credited c · k) }

theorem MultiCtx.credited_slot (c : Cfg) (ctx : MultiCtx) (k : Nat) :
    (ctx.credited c k).axes.map Axis.slot = ctx.axes.map Axis.slot := by
  rw [MultiCtx.credited, List.map_map]
  rfl

theorem MultiCtx.credited_length (c : Cfg) (ctx : MultiCtx) (k : Nat) :
    (ctx.credited c k).axes.length = ctx.axes.length := List.length_map ..

theorem MultiCtx.credited_zero (c : Cfg) (ctx : MultiCtx) : ctx.credited c 0 = ctx := by
  simp only [MultiCtx.credited, Axis.credited_zero, List.map_id']

theorem MultiCtx.credited_succ (c : Cfg) (ctx : MultiCtx) (k : Nat) :
    (ctx.credited c 1).credited c k = ctx.credited c (k + 1) := by
  simp only [MultiCtx.credited, List.map_map, Function.comp_def, Axis.credited_succ]

namespace Leads

variable {c : Cfg} {slots : List Nat} {i k n : Nat} {f : Word} {ctx : MultiCtx} {ph : Phase} {set : List Nat} {a : Axis}
  {l pre post : List Axis}

/-- The rest of a slice: the axes `pre` have been handled, the axes `post` have not (R247, R249). -/
theorem slice (hph : ph ≠ .remainder → k ≠ 0) (hslots : (pre ++ post).map Axis.slot = slots) (hnd : slots.Nodup)
    (hper : ∀ a ∈ post, a.per < 2 ^ 32) (hset : ctx.sequential = true → set = [])
    (hsub : ∀ l ∈ set, l ∈ pre.map Axis.slot) :
    Leads c slots i (onward { ctx with axes := pre ++ post } ph k pre.length set) f (3 * post.length)
      (burstsOn c ph i post) (afterSlice { ctx with axes := pre ++ post.map (Axis.handled c ph) } ph k)
      (guarded f (∃ a ∈ post, a.Guarded ph)) := by
  induction post generalizing pre set f with
  | nil =>
    rw [guarded_of_not f (by simp)]
    have hq : onward { ctx with axes := pre ++ [] } ph k pre.length set =
        afterSlice { ctx with axes := pre ++ [] } ph k := if_neg (by simp)
    exact hq ▸ refl
  | cons a post ih =>
    obtain ⟨ha, hper⟩ := List.forall_mem_cons.1 hper
    have hslot : a.slot ∈ slots := hslots ▸ List.mem_map_of_mem (by simp)
    have hidle : a.slot ∉ set := fun hmem => by
      subst hslots
      rw [List.map_append, List.map_cons, List.nodup_middle, List.nodup_cons] at hnd
      exact hnd.1 (List.mem_append_left _ (hsub _ hmem))
    obtain ⟨set', hsub', hset', hround⟩ := round (c := c) (slots := slots) (i := i) (f := f) hph
      (ctx := { ctx with axes := pre ++ a :: post }) (j := pre.length) (by simp) hslot hidle ha hset
    have hq : onward { ctx with axes := pre ++ a :: post } ph k pre.length set =
        .multi { ctx with axes := pre ++ a :: post } ph k pre.length set := if_pos (by simp)
    have hrest := ih (pre := pre ++ [a.handled c ph]) (set := set') (f := guarded f (a.Guarded ph))
      (by simpa [Axis.handled_slot] using hslots) hper hset' fun l hl => by
        have hhandled := (hsub' l hl).imp_left (hsub l)
        simpa [Axis.handled_slot] using hhandled
    rw [List.length_append, List.length_singleton] at hrest
    have hwrite : (pre ++ a :: post).set pre.length (a.handled c ph) = pre ++ [a.handled c ph] ++ post := by simp
    rw [hwrite] at hround
    have hboth := hround.trans hrest
    rw [guarded_guarded, List.append_assoc, guarded_congr f (List.exists_mem_cons_iff ..).symm, Nat.add_comm] at hboth
    rw [hq, burstsOn, List.flatMap_cons]
    exact hboth

/-- A whole slice. -/
theorem whole_slice (hph : ph ≠ .remainder → k ≠ 0) (hslots : ctx.axes.map Axis.slot = slots) (hnd : slots.Nodup)
    (hper : ∀ a ∈ ctx.axes, a.per < 2 ^ 32) (ha : a ∈ ctx.axes) :
    Leads c slots a.slot (.multi ctx ph k 0 []) f (3 * ctx.axes.length) (a.bursts c ph)
      (afterSlice { ctx with axes := ctx.axes.map (Axis.handled c ph) } ph k)
      (guarded f (∃ a ∈ ctx.axes, a.Guarded ph)) := by
  have hq : onward ctx ph k 0 [] = .multi ctx ph k 0 [] := if_pos (List.length_pos_of_mem ha)
  have hslice := slice (c := c) (ctx := ctx) (i := a.slot) (f := f) (pre := []) (set := []) hph hslots hnd hper
    (fun _ => rfl) (List.forall_mem_nil _)
  rw [burstsOn_slot (hslots ▸ hnd) ha] at hslice
  exact hq ▸ hslice

/-- A half of the ramp: `k` slices (R247, R251). -/
theorem half (hph : ph ≠ .remainder) (hslots : ctx.axes.map Axis.slot = slots) (hnd : slots.Nodup)
    (hper : ∀ a ∈ ctx.axes, a.per < 2 ^ 32) (ha : a ∈ ctx.axes) :
    Leads c slots a.slot (.multi ctx ph k 0 []) f (k * (3 * ctx.axes.length)) (a.ramps c k)
      (.multi (ctx.credited c k) ph 0 0 []) f := by
  induction k generalizing ctx a with
  | zero =>
    rw [MultiCtx.credited_zero, Nat.zero_mul, Axis.ramps, List.replicate_zero, ite_self]
    exact refl
  | succ k ih =>
    have hslice := whole_slice (c := c) (f := f) (ph := ph) (fun _ => Nat.succ_ne_zero k) hslots hnd hper ha
    have hcredited : ctx.axes.map (Axis.handled c ph) = (ctx.credited c 1).axes :=
      List.map_congr_left fun a _ => a.handled_ramp hph c
    rw [hcredited, afterSlice_ramp hph, guarded_of_not f fun ⟨_, _, h⟩ => hph h.1, Axis.bursts_ramp hph] at hslice
    have hrest := ih (ctx := ctx.credited c 1) ((ctx.credited_slot c 1).trans hslots) (List.forall_mem_map.2 hper)
      (List.mem_map_of_mem ha)
    have hboth := hslice.trans hrest
    rw [MultiCtx.credited_succ, MultiCtx.credited_length] at hboth
    rw [Nat.succ_mul, Nat.add_comm (k * _), Axis.ramps_succ]
    exact hboth

/-- The end of the acceleration half. -/
theorem accelDone : Leads c slots i (.multi ctx .accel 0 0 []) f 1 [] (.multi ctx .remainder 0 0 []) f :=
  quiet (fun _ hs => hs.fault ▸ sequencerStep_multi_accel_zero hs.seq) (List.forall_mem_nil _)

/-- The remainder of every axis (R249). -/
theorem rest (hslots : ctx.axes.map Axis.slot = slots) (hnd : slots.Nodup) (hper : ∀ a ∈ ctx.axes, a.per < 2 ^ 32)
    (ha : a ∈ ctx.axes) :
    Leads c slots a.slot (.multi ctx .remainder 0 0 []) f (3 * ctx.axes.length) (a.bursts c .remainder)
      (.multi ctx .remainder 0 ctx.axes.length []) (guarded f (∃ a ∈ ctx.axes, a.Guarded .remainder)) := by
  have hslice := whole_slice (c := c) (f := f) (k := 0) (fun h => absurd rfl h) hslots hnd hper ha
  have hsame : ctx.axes.map (Axis.handled c .remainder) = ctx.axes := List.map_id' ctx.axes
  rw [hsame] at hslice
  exact hslice

/-- The turn to deceleration (R250). -/
theorem turn (hslots : ctx.axes.map Axis.slot = slots) (hnd : slots.Nodup) (hi : i ∈ slots) :
    Leads c slots i (.multi ctx .remainder 0 ctx.axes.length []) f 1 []
      (.multi ctx .decel ctx.half 0 []) f := fun s hs => by
  subst hslots
  have hturned := turnAxes_rewritten hnd (s := s) (List.forall_mem_map.1 hs.slot)
  have hdev : ∀ j ∈ ctx.axes.map Axis.slot, ((s.turnAxes ctx.axes).device j).running = (s.device j).running ∧
      ((s.turnAxes ctx.axes).device j).configured = (s.device j).configured ∧
      ((s.turnAxes ctx.axes).device j).ccChan = (s.device j).ccChan := List.forall_mem_map.2 fun a ha => by
    rw [hturned.written a ha]
    exact ⟨rfl, rfl, rfl⟩
  have hfault : (s.turnAxes ctx.axes).fault = s.fault := by rw [hturned.rest]
  exact ⟨_, .quiet (sequencerStep_multi_turn hs.seq) (hdev i hi).1,
    hs.of_shape (s.turnAxes_shape ctx.axes) (fun j hj => (hdev j hj).2)
      (fun j hj _ => (hdev j hj).1.trans (hs.idle j hj List.not_mem_nil)) rfl (hfault.trans hs.fault)⟩

end Leads

/-- A whole move: one half of the ramp, the remainder, the turn, the other half (R247 to R251). -/
theorem MultiAt.move {c : Cfg} {f : Word} {ctx : MultiCtx} {a : Axis} {s : State}
    (hs : MultiAt c (ctx.axes.map Axis.slot) (.multi ctx .accel ctx.half 0 []) f s)
    (hnd : (ctx.axes.map Axis.slot).Nodup) (hper : ∀ a ∈ ctx.axes, a.per < 2 ^ 32) (ha : a ∈ ctx.axes) :
    ∃ t, Joins a.slot s ((2 * ctx.half + 1) * (3 * ctx.axes.length) + 3)
        (a.ramps c ctx.half ++ (a.credited c ctx.half).bursts c .remainder ++ a.ramps c ctx.half)
        (finished t (won 0#32 0#32)) ∧
      t.fault = guarded f (∃ a ∈ (ctx.credited c ctx.half).axes, a.Guarded .remainder) := by
  have hslots := ctx.credited_slot c ctx.half
  have hper' : ∀ a ∈ (ctx.credited c ctx.half).axes, a.per < 2 ^ 32 := List.forall_mem_map.2 hper
  have ha' : a.credited c ctx.half ∈ (ctx.credited c ctx.half).axes := List.mem_map_of_mem ha
  have hup := Leads.half (c := c) (f := f) (k := ctx.half) (ph := .accel) (by decide) rfl hnd hper ha
  have hrest := Leads.rest (c := c) (f := f) hslots hnd hper' ha'
  have hturn := fun f => Leads.turn (c := c) (f := f) hslots hnd (List.mem_map_of_mem ha)
  have hdown := fun f => Leads.half (c := c) (f := f) (k := ctx.half) (ph := .decel) (by decide) hslots hnd hper' ha'
  obtain ⟨t, hjoins, ht⟩ := (hup.trans (Leads.accelDone.trans (hrest.trans ((hturn _).trans (hdown _))))) s hs
  have hend := hjoins.trans (.quiet (sequencerStep_multi_decel_zero ht.seq) rfl)
  simp only [MultiCtx.credited_length, List.nil_append, List.append_nil, ← List.append_assoc] at hend
  exact ⟨t, hend.mono (le_of_eq (by ring)), ht.fault⟩

/-! ## The bursts of MOVE_MULTI (R252) -/

/-- The remainder of an axis as one burst, where it fits 32 bits (R249). -/
theorem Axis.bursts_remainder {a : Axis} {n : Nat} (h : a.remaining = n) (c : Cfg) :
    a.bursts c .remainder = if n < 2 ^ 32 then oneBurst n else [] := by
  have hfits : (0 < (n : Int) ∧ (n : Int) ≤ 2 ^ 32 - 1) ↔ n ≠ 0 ∧ n < 2 ^ 32 := by omega
  rw [Axis.bursts, h, if_congr hfits rfl rfl, Int.toNat_natCast, oneBurst, ite_and, ite_not]
  split_ifs <;> rfl

/-- The guard refuses what does not fit 32 bits. -/
theorem Axis.guarded_iff {a : Axis} {n : Nat} (h : a.remaining = n) : a.Guarded .remainder ↔ 2 ^ 32 ≤ n := by
  simp only [Axis.Guarded, h, true_and]
  omega

/-- A minimum speed that is set implies a delay in range (10_state.md R37, 41_encoder.md R148). -/
theorem rateDelay_lt_of_minSpeed {s : State} {i : Nat} {m : Word} (hs : Inv s) (hu : (s.device i).inUse = true)
    (hm : (s.device i).minSpeed = some m) : s.cfg.rateDelay m < 2 ^ 30 := by
  obtain ⟨-, -, hmin, -⟩ := hs.devices _ (State.device_mem hu) hu
  rw [SpeedLegal, hm, Option.all_some, Bool.not_eq_true'] at hmin
  have hgood : ¬Cfg.badSpeed s.cfg m = true := ne_true_of_eq_false hmin
  rw [badSpeed_iff, not_or, Nat.not_le] at hgood
  exact hgood.2

/-- A claimed slot's completion channel exists. -/
theorem ccChan_lt_of_inUse {s : State} {i : Nat} (hs : Inv s) (hu : (s.device i).inUse = true) :
    (s.device i).ccChan < s.xfer.length := by
  obtain ⟨hdev, hmap, hxfer, -⟩ := hs.sized
  obtain ⟨hslot, -⟩ := hs.registry.slots i (hdev ▸ State.lt_of_inUse hu) hu
  exact (State.lt_of_slotOf hslot).trans_eq (hmap.trans hxfer.symm)

/-- Half the ramp slices of an axis above the threshold take their steps off its distance (R247). -/
theorem Axis.credited_of_lt {c : Cfg} {a : Axis} {n half : Nat} (h : a.remaining = n) (hper : c.minSlice < a.per)
    (hfit : 2 * (half * a.per) ≤ n) : (a.credited c half).remaining = (n - 2 * half * a.per : Nat) := by
  rw [Nat.cast_sub (by rwa [Nat.mul_assoc]), Axis.credited, if_pos hper, h]
  push_cast
  ring

/-- Those of an axis at or below it are made up for in the remainder (R247). -/
theorem Axis.credited_of_le {c : Cfg} {a : Axis} {n half : Nat} (h : a.remaining = n) (hper : a.per ≤ c.minSlice) :
    (a.credited c half).remaining = (n + 2 * half * a.per : Nat) := by
  rw [Axis.credited, if_neg (Nat.not_lt.2 hper), h]
  push_cast
  ring

/-- After its ramp slices an axis is refused by the guard exactly where it was skipped and its distance with the credits
does not fit 32 bits (R249). -/
theorem Axis.credited_guarded_iff {c : Cfg} {a : Axis} {n half : Nat} (h : a.remaining = n)
    (hfit : 2 * (half * a.per) ≤ n) (hn : n < 2 ^ 32) :
    (a.credited c half).Guarded .remainder ↔ a.per ≤ c.minSlice ∧ 2 ^ 32 ≤ n + 2 * half * a.per := by
  by_cases hper : c.minSlice < a.per
  · rw [Axis.guarded_iff (Axis.credited_of_lt h hper hfit)]
    omega
  · rw [Axis.guarded_iff (Axis.credited_of_le h (Nat.not_lt.1 hper))]
    exact (and_iff_right (Nat.not_lt.1 hper)).symm

/-- The bursts of an axis above the threshold (R252 (a)). -/
theorem Axis.move_bursts_of_lt {c : Cfg} {a : Axis} {n half : Nat} (h : a.remaining = n) (hper : c.minSlice < a.per)
    (hfit : 2 * (half * a.per) ≤ n) (hn : n < 2 ^ 32) :
    a.ramps c half ++ (a.credited c half).bursts c .remainder ++ a.ramps c half =
      List.replicate half (a.per, .ramp) ++ oneBurst (n - 2 * half * a.per) ++ List.replicate half (a.per, .ramp) := by
  rw [Axis.ramps, if_pos hper, Axis.bursts_remainder (Axis.credited_of_lt h hper hfit), if_pos (by omega)]

/-- The bursts of an axis at or below the threshold (R252 (b)). -/
theorem Axis.move_bursts_of_le {c : Cfg} {a : Axis} {n half : Nat} (h : a.remaining = n) (hper : a.per ≤ c.minSlice) :
    a.ramps c half ++ (a.credited c half).bursts c .remainder ++ a.ramps c half =
      if n + 2 * half * a.per < 2 ^ 32 then oneBurst (n + 2 * half * a.per) else [] := by
  rw [Axis.ramps, if_neg (Nat.not_lt.2 hper), Axis.bursts_remainder (Axis.credited_of_le h hper), List.append_nil,
    List.nil_append]

/-- The steps dispatched on an axis above the threshold are its distance (R252 (a)). -/
theorem sum_multi_bursts {half per n : Nat} (hfit : 2 * (half * per) ≤ n) :
    ((List.replicate half (per, Callback.ramp) ++ oneBurst (n - 2 * half * per) ++
      List.replicate half (per, Callback.ramp)).map Prod.fst).sum = n := by
  have hone : ∀ m, ((oneBurst m).map Prod.fst).sum = m := fun m => by
    unfold oneBurst
    split_ifs with hm <;> simp [hm]
  simp only [List.map_append, List.sum_append, hone, List.map_replicate, List.sum_replicate, smul_eq_mul]
  rw [Nat.mul_assoc]
  omega

theorem multiContext_slots (s : State) (q : Bool) (axes : List (Byte × Word)) :
    (multiContext s q axes).axes.map Axis.slot = axes.map fun a => a.1.toNat := by
  rw [← multiCtx_eq, multiCtx_slots]

theorem axisTargets_map_fst (axes : List (Byte × Word)) : (axisTargets axes).map (·.1) = axes.map fun a => a.1.toNat :=
  List.map_map ..

/-- An accepted MOVE_MULTI stands at its first slice. -/
theorem multiAt_started {s t : State} {q : Bool} {axes : List (Byte × Word)} (hinv : Inv s)
    (hclaimed : ∀ a ∈ axes, Claimed s a.1 ∧ (s.device a.1.toNat).configured = true ∧
      (s.device a.1.toNat).running = false)
    (ht : t = started { s with dev := t.dev } (.multi (multiContext s q axes) .accel (accelSteps s axes / 2) 0 []))
    (hlen : t.dev.length = s.dev.length)
    (hwritten : ∀ a ∈ axes, t.device a.1.toNat = axisBegun s (maxDist s axes) a.2 (s.device a.1.toNat)) :
    MultiAt s.cfg ((multiContext s q axes).axes.map Axis.slot)
      (.multi (multiContext s q axes) .accel (accelSteps s axes / 2) 0 []) s.fault t := by
  have hxfer : t.xfer = s.xfer := by rw [ht]; rfl
  rw [multiContext_slots]
  refine ⟨by rw [ht]; rfl, by rw [ht]; rfl, by rw [ht]; rfl, List.forall_mem_map.2 fun a ha => ?_,
    List.forall_mem_map.2 fun a ha => ?_, List.forall_mem_map.2 fun a ha => ?_,
    List.forall_mem_map.2 fun a ha _ => ?_⟩
  all_goals
    obtain ⟨hh, hconf, hidle⟩ := hclaimed a ha
    obtain ⟨-, -, hu⟩ := id hh
  · exact (lt_of_claimed hh).trans_eq hlen.symm
  · rw [hwritten a ha]
    exact hconf
  · rw [hwritten a ha, hxfer]
    exact ccChan_lt_of_inUse hinv hu
  · rw [hwritten a ha]
    exact hidle

/-- Settles O60: the bursts of the whole move, and its end. -/
theorem moveMultiDispatchesItsBursts : Obligations.MoveMultiDispatchesItsBursts := by
  intro s q axes hinv hfault hn haxes hnd haway half dist per tooWide
  have hstart : ∀ a ∈ axes, Claimed s a.1 ∧ (s.device a.1.toNat).configured = true ∧
      (s.device a.1.toNat).running = false ∧
      (∃ m, (s.device a.1.toNat).minSpeed = some m ∧ s.cfg.rateDelay m < 2 ^ 30) ∧
      (s.device a.1.toNat).maxSpeed ≠ none := fun a ha => by
    obtain ⟨hclaimed, hconf, hidle, hmin, hmax⟩ := haxes a ha
    obtain ⟨m, hm⟩ := Option.ne_none_iff_exists'.1 hmin
    obtain ⟨-, -, hu⟩ := id hclaimed
    exact ⟨hclaimed, hconf, hidle, ⟨m, hm, rateDelay_lt_of_minSpeed hinv hu hm⟩, hmax⟩
  obtain ⟨t, hexec, ht, hlen, hwritten, -⟩ := moveMultiStartsEveryAxis s q axes hn hstart hnd haway
  have hready : ∀ a ∈ axes, Claimed s a.1 ∧ (s.device a.1.toNat).configured = true ∧
      (s.device a.1.toNat).running = false := fun a ha => by
    obtain ⟨hclaimed, hconf, hidle, -⟩ := haxes a ha
    exact ⟨hclaimed, hconf, hidle⟩
  have hat := multiAt_started hinv hready ht hlen hwritten
  have hslots : ((multiContext s q axes).axes.map Axis.slot).Nodup := by
    rw [multiContext_slots, ← axisTargets_map_fst, axisTargets_nodup_iff]
    exact hnd
  have hdist : ∀ a, dist a < 2 ^ 32 := fun a => distance_lt _ _
  have hfit : ∀ a, 2 * (half * per a) ≤ dist a := fun a => two_halves_le ..
  have hper : ∀ a, per a ≤ dist a := fun a => perSlice_le ..
  have hguard : (∃ x ∈ ((multiContext s q axes).credited s.cfg (multiContext s q axes).half).axes,
      x.Guarded .remainder) ↔ ∃ b ∈ axes, tooWide b := by
    simp only [MultiCtx.credited, multiContext, List.mem_map, exists_exists_and_eq_and]
    exact exists_congr fun b => and_congr_right fun _ => Axis.credited_guarded_iff rfl (hfit b) (hdist b)
  refine ⟨t, hexec, fun a ha => ?_⟩
  obtain ⟨u, hjoins, hu⟩ := hat.move (a := ⟨a.1.toNat, dist a, per a, dist a⟩) hslots
    (List.forall_mem_map.2 fun a _ => (hper a).trans_lt (hdist a)) (List.mem_map_of_mem ha)
  have hfuel : (2 * half + 1) * (3 * (multiContext s q axes).axes.length) + 3 ≤
      (2 * half + 1) * (3 * axes.length + 3) + 4 :=
    Nat.add_le_add (Nat.mul_le_mul_left _ (by simp [multiContext])) (by decide)
  obtain ⟨dev, hout⟩ := hjoins.joinedBursts_eq rfl hfuel
  intro out
  have hbursts : out.1 = _ := congrArg Prod.fst hout
  have hword : out.2.fault = guarded s.fault _ := (congrArg (·.2.fault) hout).trans hu
  have hclean : s.fault = 0#32 := not_not.1 hfault
  refine ⟨fun hlt => ?above, fun hle hfits => ?below, fun hwide => ?refused, fun hnone => ?clean,
    congrArg (·.2.seq) hout, congrArg (·.2.result) hout, congrArg (·.2.cmdBusy) hout⟩
  case above =>
    rw [hbursts.trans (Axis.move_bursts_of_lt rfl hlt (hfit a) (hdist a))]
    exact ⟨rfl, sum_multi_bursts (hfit a)⟩
  case below =>
    exact (hbursts.trans (Axis.move_bursts_of_le rfl hle)).trans (if_pos (Nat.not_le.1 fun h => hfits ⟨hle, h⟩))
  case refused =>
    refine ⟨(hbursts.trans (Axis.move_bursts_of_le rfl hwide.1)).trans (if_neg (Nat.not_lt.2 hwide.2)), ?_⟩
    rw [hword, guarded, if_pos (hguard.2 ⟨a, ha, hwide⟩), hclean]
    rfl
  case clean =>
    rw [Faulted, hword, guarded_of_not _ fun h => ?_]
    · exact hfault
    · obtain ⟨b, hb, hwide⟩ := hguard.1 h
      exact hnone b hb hwide

end Sys2Proof.Machine

/-! # The cap of an accelerating device

A device accelerates only after a prologue that found its maximum speed set, and no write unsets it; a flag belongs to a
mapped channel. So neither `F_UNSET` nor `F_UNMAPPED` is ever set (60_exceptions.md R271). The invariant is needed at two
places: the prologues' writes are one record for each axis, and every channel a dispatch owes is mapped to a claimed
slot (`Owed`). -/

namespace Sys2Proof.Machine

open Sys2Proof.Safety Sys2Proof.Claims

/-- A claimed device that accelerates has a maximum speed (44_accel_controller.md R217 (b), R223). -/
def Device.Capped (d : Device) : Prop := d.inUse = true → d.accelDir = .up → d.maxSpeed.isSome = true

/-- What stands where there is no slot is not in use, so that the device file may be read by slots. -/
theorem capsSet_iff (s : State) : CapsSet s ↔ s.fault &&& 0x24#32 = 0#32 ∧ ∀ i, (s.device i).Capped := by
  refine and_congr_right fun _ => ⟨fun h i hu => h _ (State.device_mem hu) hu, fun h d hd => ?_⟩
  obtain ⟨i, hi, rfl⟩ := List.getElem_of_mem hd
  have hcap := h i
  rwa [State.device, List.getD_eq_getElem _ _ hi] at hcap

theorem capsSet_of_bare {s t : State} (h : t.bare = s.bare) (hs : CapsSet s) : CapsSet t := by
  rwa [CapsSet, State.eq_of_bare h State.fault, State.eq_of_bare h State.dev]

/-! ## The writes -/

theorem capsSet_setDevice {s : State} {i : Nat} {d : Device} (hs : CapsSet s) (hd : d.Capped) :
    CapsSet (s.setDevice i d) := by
  obtain ⟨hfault, hdev⟩ := hs
  refine ⟨hfault, fun e he => ?_⟩
  obtain he | rfl := List.mem_or_eq_of_mem_set he
  · exact hdev e he
  · exact hd

/-- A write of other fields than the claim, the direction of the ramp and the maximum speed. -/
theorem capsSet_modDevice {s : State} {i : Nat} {f : Device → Device} (hs : CapsSet s)
    (hf : (s.device i).Capped → (f (s.device i)).Capped := by exact id) : CapsSet (s.modDevice i f) :=
  capsSet_setDevice hs (hf (((capsSet_iff s).1 hs).2 i))

/-- A device that does not accelerate needs no cap. -/
theorem Device.capped_of_ne_up {d : Device} (h : d.accelDir ≠ .up) : d.Capped := fun _ hup => absurd hup h

theorem capsSet_raiseFault {s : State} {f : Word} (hs : CapsSet s) (hf : f &&& 0x24#32 = 0#32) :
    CapsSet (s.raiseFault f) := by
  obtain ⟨hfault, hdev⟩ := hs
  refine ⟨?_, hdev⟩
  rw [State.raiseFault_fault, BitVec.and_or_distrib_right, hfault, hf]
  rfl

theorem capsSet_setDelay {s : State} (hs : CapsSet s) (i v : Nat) : CapsSet (s.setDelay i v) := by
  obtain ⟨w, n, -, -, h⟩ := setDelay_cases s i v
  have hwrite : CapsSet (s.modDevice i fun d => { d with delay := s.cfg.clampDelay w }.recompute) :=
    capsSet_modDevice hs
  exact h ▸ hwrite

theorem capsSet_push {s : State} (hs : CapsSet s) (i : Nat) (v : Word) : CapsSet (s.push i v) := by
  obtain ⟨-, h⟩ | ⟨-, h⟩ := push_cases s i v
  · exact h ▸ capsSet_raiseFault hs (by decide)
  · exact h ▸ capsSet_modDevice hs

theorem capsSet_pop {s : State} (hs : CapsSet s) (i : Nat) : CapsSet (s.pop i).2 :=
  capsSet_modDevice (f := fun d => { d with stack := d.stack.dropLast }) hs

theorem capsSet_countCoast {s : State} (hs : CapsSet s) (i : Nat) : CapsSet (s.countCoast i) := by
  unfold State.countCoast
  split
  · have hwrite : CapsSet (s.modDevice i fun d => { d with coastingSlices := Config.freeCoast s.freeIx }) :=
      capsSet_modDevice hs
    exact hwrite
  · exact capsSet_modDevice hs

theorem capsSet_setRunning {s : State} (hs : CapsSet s) (i : Nat) (b : Bool) :
    CapsSet (s.modDevice i fun d => { d with running := b }) := capsSet_modDevice hs

theorem capsSet_startBurst {s t : State} {i n : Nat} {cb : Callback} (hs : CapsSet s)
    (h : s.startBurst i n cb = .ok t) : CapsSet t := by
  obtain ⟨-, -, -, rfl⟩ := (startBurst_ok_iff s t i n cb).1 h
  have hwrite : CapsSet (s.modDevice i fun d => { d with callback := cb, running := true }) := capsSet_modDevice hs
  exact hwrite

theorem capsSet_seqDispatch {s : State} (hs : CapsSet s) (i n : Nat) (cb : Callback) :
    CapsSet (s.seqDispatch i n cb) := by
  obtain h | h := seqDispatch_cases s i n cb
  · exact capsSet_startBurst hs h
  · exact h ▸ capsSet_raiseFault hs (by decide)

/-- ALLOC gives a slot that does not accelerate (10_state.md R53). -/
theorem capsSet_claim {s : State} (hs : CapsSet s) (i p c : Nat) : CapsSet (s.claim i p c) := by
  have hd : (Device.allocated s.cfg p c s.freeIx).Capped := Device.capped_of_ne_up (by simp [Device.allocated])
  exact (capsSet_setDevice hs hd :)

/-! ## The simple commands -/

/-- A failing check of a command touches nothing (60_exceptions.md R269). -/
theorem check_preserves {p : State → Prop} {c : Prop} [Decidable c] {s : State} {r : Result} {out : State × Result}
    (hs : p s) (h : p out.1) : p (if c then (s, r) else out).1 := by
  split_ifs
  · exact hs
  · exact h

theorem capsSet_moveAsyncCmd {s : State} (hs : CapsSet s) (dev : Byte) (steps : Word) (cb : Callback) :
    CapsSet (moveAsyncCmd dev steps cb s).1 :=
  withHandle_preserves hs fun i => by
    split
    next h => exact capsSet_startBurst hs h
    next => exact hs

/-- No simple command makes a device accelerate or unsets a maximum speed, in either context. -/
theorem capsSet_handlerCommand {s : State} (hs : CapsSet s) (i : Instr) : CapsSet (handlerCommand i s).1 := by
  cases i with
  | alloc =>
    change CapsSet (allocCmd s).1
    unfold allocCmd
    split
    · exact capsSet_claim hs ..
    · exact hs
  | config2 => exact withHandle_preserves hs fun _ => check_preserves hs (check_preserves hs (capsSet_modDevice hs))
  | config4 | setMinspd => exact withHandle_preserves hs fun _ => check_preserves hs (capsSet_modDevice hs)
  | setMaxspd => exact withHandle_preserves hs fun _ => check_preserves hs (capsSet_modDevice hs fun _ _ _ => rfl)
  | setDir | setEn | setAccel | setPos => exact withHandle_preserves hs fun _ => capsSet_modDevice hs
  | setDelay => exact withHandle_preserves hs fun _ => check_preserves hs (capsSet_setDelay hs ..)
  | spd2dly | dly2spd | get => simpa only [handlerCommand, spd2dlyCmd_state, dly2spdCmd_state, getCmd_state] using hs
  | stkPush => exact withHandle_preserves hs fun _ => check_preserves hs (capsSet_push hs ..)
  | stkPop =>
    exact withHandle_preserves hs fun i => by
      have hpop := capsSet_pop hs i
      split <;> next h => rwa [h] at hpop
  | moveAsyncNone | moveAsyncRamp | moveAsyncUser => exact capsSet_moveAsyncCmd hs ..
  | moveBlock | waitIdle | moveTo | moveMulti => exact hs

/-! ## The prologues -/

/-- A command that starts the sequencer keeps the caps where the writes of its prologue do. -/
theorem capsSet_macroCommand {s t : State} {out : Prologue} (hs : CapsSet s)
    (hout : ∀ u q, out = .starts u q → CapsSet u) (h : macroCommand s out = .next t) : CapsSet t := by
  cases out with
  | ends r =>
    cases h
    exact hs
  | starts u q =>
    cases h
    exact hout u q rfl

theorem capsSet_moveBlockPrologue {dev : Byte} {dir : Bool} {steps startDelay delayStep : Word} {s u : State} {q : Seq}
    (hs : CapsSet s) (h : moveBlockPrologue dev dir steps startDelay delayStep s = .starts u q) : CapsSet u := by
  unfold moveBlockPrologue at h
  dsimp only at h
  split_ifs at h
  cases h
  exact capsSet_modDevice hs

theorem capsSet_waitIdlePrologue {dev : Byte} {s u : State} {q : Seq} (hs : CapsSet s)
    (h : waitIdlePrologue dev s = .starts u q) : CapsSet u := by
  unfold waitIdlePrologue at h
  split_ifs at h
  cases h
  exact hs

/-- MOVE_TO makes a device accelerate whose maximum speed is set (44_accel_controller.md R221, R223). -/
theorem capsSet_moveToPrologue {dev : Byte} {target : Word} {s u : State} {q : Seq} (hinv : Inv s) (hs : CapsSet s)
    (h : moveToPrologue dev target s = .starts u q) : CapsSet u := by
  unfold moveToPrologue at h
  dsimp only at h
  split at h
  · cases h
  next hv =>
    have hu : (s.device dev.toNat).inUse = true := inUse_of_validHandle (by simpa using hv)
    split at h
    · cases h
    split at h
    next m m' hmin hmax =>
      split_ifs at h
      cases h
      rw [beginMoveTo_eq (State.lt_of_inUse hu) (rateDelay_lt_of_minSpeed hinv hu hmin)]
      exact capsSet_setDevice hs fun _ _ => Option.isSome_of_mem hmax
    next => cases h

/-- MOVE_MULTI's prologue makes devices accelerate whose maximum speeds are set (45_multi_axis.md R241, R246). -/
theorem capsSet_beginMulti {s : State} {axes : List (Byte × Word)} (hinv : Inv s) (hs : CapsSet s)
    (hclaimed : ∀ a ∈ axes, Claimed s a.1) (hnd : (axes.map Prod.fst).Nodup)
    (hready : ∀ a ∈ axes, (s.device a.1.toNat).configured = true ∧ (s.device a.1.toNat).minSpeed ≠ none ∧
      (s.device a.1.toNat).maxSpeed ≠ none) : CapsSet (s.beginMulti (axisTargets axes)) := by
  obtain ⟨hrest, -, hwritten, hkept⟩ := beginMulti_rewritten hnd hclaimed fun a ha => by
    obtain ⟨-, -, hu⟩ := hclaimed a ha
    obtain ⟨-, hmin, -⟩ := hready a ha
    obtain ⟨m, hm⟩ := Option.ne_none_iff_exists'.1 hmin
    exact ⟨m, hm, rateDelay_lt_of_minSpeed hinv hu hm⟩
  obtain ⟨hfault, hdev⟩ := (capsSet_iff s).1 hs
  refine (capsSet_iff _).2 ⟨by rwa [hrest], fun j => ?_⟩
  by_cases hj : ∃ a ∈ axes, a.1.toNat = j
  · obtain ⟨a, ha, rfl⟩ := hj
    rw [hwritten _ (List.mem_map_of_mem ha)]
    obtain ⟨-, -, hmax⟩ := hready a ha
    exact fun _ _ => Option.isSome_iff_ne_none.2 hmax
  · rw [hkept j (List.forall_mem_map.2 fun a ha haj => hj ⟨a, ha, haj⟩)]
    exact hdev j

theorem capsSet_exec {i : Instr} {s t : State} (hinv : Inv s) (hs : CapsSet s) (h : exec i s = .next t) :
    CapsSet t := by
  cases hi : i.isMacro with
  | false =>
    rw [exec_of_simple hi] at h
    cases h
    exact (capsSet_handlerCommand hs i :)
  | true =>
    cases i
    case moveBlock => exact capsSet_macroCommand hs (fun _ _ => capsSet_moveBlockPrologue hs) h
    case waitIdle => exact capsSet_macroCommand hs (fun _ _ => capsSet_waitIdlePrologue hs) h
    case moveTo => exact capsSet_macroCommand hs (fun _ _ => capsSet_moveToPrologue hinv hs) h
    case moveMulti =>
      rw [exec_moveMulti] at h
      split_ifs at h with _ hclaimed hnd _ hready
      case neg =>
        cases h
        exact (capsSet_beginMulti hinv hs hclaimed hnd hready :)
      all_goals
        cases h
        exact hs
    all_goals cases hi

/-! ## The host -/

/-- An access of the host leaves what the invariants speak of, or runs a whole descriptor from a state that differs in
nothing they speak of (20_memory.md R75). -/
theorem hostAccess_cases {op : HostOp} {s t : State} (h : hostAccess op s = .next t) :
    t.bare = s.bare ∨ ∃ d u, u.bare = s.bare ∧ runDecoded d u = .next t := by
  cases op with
  | read addr size =>
    simp only [hostAccess] at h
    split at h <;> cases h <;> exact .inl rfl
  | write addr size w =>
    cases hreg : s.windowReg addr size with
    | none =>
      cases (hostAccess_write_rejected hreg w).symm.trans h
      exact .inl rfl
    | some r =>
      rw [hostAccess_write hreg] at h
      by_cases hr : r = .cmd
      · subst hr
        unfold windowWrite acceptWord at h
        dsimp only at h
        split_ifs at h
        · cases h
          exact .inl rfl
        · split at h
          · cases h
            exact .inl rfl
          next d _ _ =>
            refine .inr ⟨d, _, ?_, h⟩
            rfl
      · cases (windowWrite_of_ne_cmd hr w s).symm.trans h
        exact .inl rfl

theorem capsSet_runDecoded {d : Decoded} {s t : State} (hinv : Inv s) (hs : CapsSet s)
    (h : runDecoded d s = .next t) : CapsSet t := by
  cases d with
  | command i => exact capsSet_exec hinv hs h
  | illegalCommand | badArgument =>
    cases h
    exact hs

theorem capsSet_hostStep {s t : State} (hinv : Inv s) (hs : CapsSet s) (h : hostStep s = some (.next t)) :
    CapsSet t := by
  unfold hostStep at h
  split at h
  · cases h
  · obtain hbare | ⟨d, u, hbare, h⟩ := hostAccess_cases (Option.some.inj h)
    · exact capsSet_of_bare (hbare.trans rfl) hs
    · have hu : u.bare = s.bare := hbare.trans rfl
      exact capsSet_runDecoded (inv_of_bare hu hinv) (capsSet_of_bare hu hs) h

/-! ## The sequencer -/

theorem capsSet_blockStep {i k : Nat} {v delayStep : Int} {dir : Bool} {s t : State} (hs : CapsSet s)
    (h : blockStep i k v dir delayStep s = some t) : CapsSet t := by
  cases k with
  | zero =>
    cases h
    exact hs
  | succ k =>
    unfold blockStep at h
    dsimp only at h
    split_ifs at h
    · cases h
      exact (capsSet_raiseFault hs (f := fBlockRange) (by decide) :)
    · cases h
      exact hs

theorem capsSet_blockDrainStep {i : Nat} {r : Result} {s t : State} (hs : CapsSet s)
    (h : blockDrainStep i r s = some t) : CapsSet t := by
  unfold blockDrainStep at h
  split_ifs at h
  cases h
  exact (capsSet_setRunning hs i false :)

/-- The turn to deceleration needs no cap (44_accel_controller.md R225). -/
theorem capsSet_setDown {s : State} (hs : CapsSet s) (i : Nat) :
    CapsSet (s.modDevice i fun d => { d with accelDir := .down }) :=
  capsSet_modDevice hs fun _ => Device.capped_of_ne_up (by simp)

theorem capsSet_toStep {s : State} (hs : CapsSet s) (i : Nat) (phase : Phase) (k rem half : Nat) :
    CapsSet (toStep i phase k rem half s) := by
  cases phase with
  | accel | decel =>
    cases k with
    | zero => exact hs
    | succ k => exact (capsSet_seqDispatch hs i s.cfg.numSteps .ramp :)
  | remainder =>
    unfold toStep
    dsimp only
    split
    · exact (capsSet_seqDispatch hs i rem .none :)
    · exact (capsSet_setDown hs i :)

theorem capsSet_rampAxis {s : State} (hs : CapsSet s) (ctx : MultiCtx) (phase : Phase) (k j : Nat) (set : List Nat)
    (a : Axis) : CapsSet (rampAxis ctx phase k j set a s) := by
  unfold rampAxis
  split
  · exact (capsSet_seqDispatch hs a.slot a.per .ramp :)
  · exact hs

theorem capsSet_remainderAxis {s : State} (hs : CapsSet s) (ctx : MultiCtx) (k j : Nat) (set : List Nat) (a : Axis) :
    CapsSet (remainderAxis ctx k j set a s) := by
  unfold remainderAxis
  split
  · exact hs
  · split
    · exact (capsSet_raiseFault hs (f := fSeqDispatch) (by decide) :)
    · exact (capsSet_seqDispatch hs a.slot a.remaining.toNat .none :)

theorem capsSet_turnAxes {s : State} (hs : CapsSet s) (axes : List Axis) : CapsSet (s.turnAxes axes) :=
  List.foldlRecOn (motive := CapsSet) axes _ hs fun _ hu a _ => capsSet_setDown hu a.slot

theorem capsSet_multiStep {s : State} (hs : CapsSet s) (ctx : MultiCtx) (phase : Phase) (k j : Nat) (set : List Nat) :
    CapsSet (multiStep ctx phase k j set s) := by
  unfold multiStep
  split
  · exact capsSet_remainderAxis hs ..
  · exact (capsSet_turnAxes hs ctx.axes :)
  · split
    · exact hs
    · exact capsSet_rampAxis hs ..
  · exact hs
  · split
    · exact hs
    · exact capsSet_rampAxis hs ..
  · exact hs

theorem capsSet_sequencerStep {s t : State} (hs : CapsSet s) (h : sequencerStep s = some t) : CapsSet t := by
  unfold sequencerStep at h
  split at h
  case h_1 => cases h
  case h_2 => exact capsSet_blockStep hs h
  case h_3 => exact capsSet_blockDrainStep hs h
  case h_4 =>
    unfold waitIdleStep at h
    split_ifs at h
    cases h
    exact hs
  case h_5 =>
    cases h
    exact capsSet_toStep hs ..
  case h_6 =>
    unfold toWaitStep at h
    split_ifs at h
    cases h
    exact hs
  case h_7 =>
    cases h
    exact capsSet_multiStep hs ..
  case h_8 =>
    unfold multiWaitStep at h
    split_ifs at h
    all_goals
      cases h
      exact hs

/-! ## A dispatch -/

theorem capsSet_accelDown {s : State} (hs : CapsSet s) (i : Nat) : CapsSet (accelDown i s) := by
  unfold accelDown
  split
  · have hpop := capsSet_pop hs i
    split
    next h =>
      rw [h] at hpop
      exact capsSet_setDelay hpop ..
    next => exact capsSet_raiseFault hs (by decide)
  · exact capsSet_modDevice hs

/-- With its maximum speed set, an accelerating device raises no `F_UNSET` (44_accel_controller.md R217 (b)). -/
theorem capsSet_accelUp {s : State} {i : Nat} (hs : CapsSet s) (hmax : (s.device i).maxSpeed.isSome = true) :
    CapsSet (accelUp i s) := by
  obtain ⟨m, hm⟩ := Option.isSome_iff_exists.1 hmax
  simp only [accelUp, hm]
  split
  · exact capsSet_setDelay (capsSet_countCoast hs i) ..
  · exact capsSet_setDelay (capsSet_push hs i _) ..

theorem capsSet_accelCallback {s : State} {i : Nat} (hs : CapsSet s) (hu : (s.device i).inUse = true) :
    CapsSet (accelCallback i s) := by
  unfold accelCallback
  dsimp only
  split
  · exact hs
  · split
    next => exact hs
    next => exact capsSet_accelDown hs i
    next hup => exact capsSet_accelUp hs (((capsSet_iff s).1 hs).2 i hu hup)

theorem capsSet_runHandler {s : State} (hs : CapsSet s) (tag : Byte) (i : Nat) : CapsSet (runHandler tag i s) :=
  List.foldlRecOn (motive := CapsSet) _ handlerStep hs fun _ hu c _ => (capsSet_handlerCommand hu c :)

theorem capsSet_runCallback {s : State} {i : Nat} (hs : CapsSet s) (hu : (s.device i).inUse = true) :
    CapsSet (runCallback i s) := by
  unfold runCallback
  split
  · exact hs
  · exact capsSet_accelCallback hs hu
  · exact capsSet_runHandler hs ..

/-- A channel a dispatch owes is mapped to a claimed slot, so that its service raises no `F_UNMAPPED`. -/
theorem Owed.capsSet_completeChannel {c : Nat} {l : List Nat} {s : State} (howed : Owed (c :: l) s) (hs : CapsSet s) :
    CapsSet (Machine.completeChannel s c) := by
  obtain ⟨-, f, hf, hledger⟩ := howed
  obtain ⟨i, hi⟩ := hledger.slotOf_of_flag ((hf c).2 List.mem_cons_self)
  obtain ⟨hu, -⟩ := hledger.of_slotOf hi
  have hslot : s.slotOf c = some i := hi
  simp only [Machine.completeChannel, hslot]
  exact capsSet_runCallback (capsSet_setRunning hs i false) ((s.device_setRunning_congr i false Device.inUse i).trans hu)

theorem Owed.capsSet_dispatch {l : List Nat} (hnd : l.Nodup) {s : State} (howed : Owed l s) (hs : CapsSet s) :
    CapsSet (l.foldl Machine.completeChannel s) := by
  induction l generalizing s with
  | nil => exact hs
  | cons c l ih =>
    exact ih (List.nodup_cons.1 hnd).2 (howed.completeChannel hnd) (howed.capsSet_completeChannel hs)

/-! ## Every step -/

theorem capsSet_resetOf (c : Cfg) : CapsSet (State.resetOf c) := by
  refine ⟨BitVec.zero_and, fun d hd hu => ?_⟩
  rw [List.eq_of_mem_replicate hd] at hu
  cases hu

theorem capsSet_agentStep {a : Agent} {s t : State} (hinv : Inv s) (hs : CapsSet s)
    (h : agentStep a s = some (.next t)) : CapsSet t := by
  cases a with
  | host => exact capsSet_hostStep hinv hs h
  | sequencer => exact capsSet_sequencerStep hs (by simpa [agentStep] using h)
  | burst c =>
    obtain ⟨-, -, rfl⟩ := (beatStep_some_iff c s t).1 (by simpa [agentStep] using h)
    split <;> exact hs
  | pulseGen p =>
    obtain ⟨w, rest, -, rfl⟩ := (pulseStep_some_iff p s t).1 (by simpa [agentStep] using h)
    exact hs
  | dispatcher =>
    obtain ⟨-, rfl⟩ := (dispatchStep_some_iff s t).1 (by simpa [agentStep] using h)
    exact ((inv_iff s).1 hinv).1.owed.capsSet_dispatch (List.nodup_range.filter _) hs
  | platformReset =>
    cases h
    exact (capsSet_resetOf s.cfg :)

theorem capsSet_step {s t : State} (hinv : Inv s) (hs : CapsSet s) (h : step s = .next t) : CapsSet t := by
  obtain ⟨-, ht⟩ | ⟨a, rest, -, ⟨-, ht⟩ | ⟨out, ha, ht⟩⟩ := step_cases hinv.cfgOk
  · cases h.symm.trans ht
    exact hs
  · cases h.symm.trans ht
    exact hs
  · cases ht.symm.trans h
    exact capsSet_agentStep (s := { s with schedule := rest }) (inv_of_bare (s := s) rfl hinv) hs ha

/-- The invariant and the caps hold of every reachable state: at reset, and over what the outside supplies and every
step. -/
theorem Reachable.inv_capsSet {c : Cfg} {s : State} (hc : c.ok = true) (h : Reachable c s) : Inv s ∧ CapsSet s := by
  induction h with
  | reset => exact ⟨resetMeetsInvariant c [] [] [] hc, capsSet_resetOf c⟩
  | outside s _ _ _ _ ih => exact ⟨inv_of_bare (s := s) rfl ih.1, ih.2⟩
  | step s t _ hst ih => exact ⟨stepKeepsInvariant s t ih.1 hst, capsSet_step ih.1 ih.2 hst⟩

/-- Settles O55: a prologue that makes a device accelerate has found its maximum speed set, and a dispatch serves
channels of claimed slots only. -/
theorem unsetAndUnmappedFaultsAreUnreachable : Obligations.UnsetAndUnmappedFaultsAreUnreachable :=
  ⟨fun s t hinv hs h => ⟨stepKeepsInvariant s t hinv h, capsSet_step hinv hs h⟩,
    fun _ _ hc h => (Reachable.inv_capsSet hc h).2⟩

end Sys2Proof.Machine

/-! # Sticky faults -/

namespace Sys2Proof.Machine

open Sys2Proof.Safety

/-- Bits of the fault word that are set stay set where another is raised (60_exceptions.md R271). -/
theorem faultBits_raise {w f : Word} {s : State} (hs : w &&& s.fault = w) : w &&& (s.raiseFault f).fault = w := by
  rw [State.raiseFault_fault, BitVec.and_or_distrib_left, hs]
  ext e
  simpa using fun hw _ => hw

theorem Edit.faultBits_stay {k : Scope} {w : Word} {s t : State} (h : Edit k s t) (hs : w &&& s.fault = w) :
    w &&& t.fault = w := by
  cases h with
  | outside h => rwa [State.eq_of_bare h State.fault]
  | raise => exact faultBits_raise hs
  | write | arm | claim => exact hs

theorem Edits.faultBits_stay {k : Scope} {w : Word} {s t : State} (h : Edits k s t) (hs : w &&& s.fault = w) :
    w &&& t.fault = w :=
  h.preserve (p := fun u => w &&& u.fault = w) Edit.faultBits_stay hs

theorem Turn.faultBits_stay {a : Agent} {w : Word} {s t : State} (h : Turn a s t) (ha : a ≠ .platformReset)
    (hs : w &&& s.fault = w) : w &&& t.fault = w := by
  cases h with
  | accept _ h =>
    cases h with
    | ends h | starts h => exact (h.faultBits_stay hs :)
    | block => exact hs
  | sequence _ h =>
    cases h with
    | goes h => exact (h.faultBits_stay hs :)
    | pushes | ends | drains => exact hs
  | @beat c _ _ h =>
    obtain ⟨-, -, rfl⟩ := (beatStep_some_iff c s t).1 h
    split <;> exact hs
  | @pulse p _ _ h =>
    obtain ⟨_, _, -, rfl⟩ := (pulseStep_some_iff p s t).1 h
    exact hs
  | dispatch h =>
    exact dispatch_preserve (p := fun u => w &&& u.fault = w) (fun _ hu => hu) (fun _ hu => hu) Edit.faultBits_stay h hs
  | reset => exact absurd rfl ha

/-- Settles O16: every write to the fault word but the reset's raises bits, and they are named ones. -/
theorem stickyFaultsStayUntilReset : Obligations.StickyFaultsStayUntilReset := by
  intro s t h
  obtain ⟨u, hbare, ht⟩ := step_turn h
  have hfault : u.fault = s.fault := State.eq_of_bare hbare State.fault
  refine ⟨fun hr => ?stays, fun hr => ?clears, fun hs => ?named⟩
  case stays =>
    have hu : s.fault &&& u.fault = s.fault := by rw [hfault, BitVec.and_self]
    obtain rfl | ⟨a, ha, ht⟩ := ht
    · exact hu
    · exact ht.faultBits_stay (fun hreset => hr (hreset ▸ ha)) hu
  case clears =>
    obtain ⟨rest, hsch⟩ := List.head?_eq_some_iff.1 hr
    obtain rfl : platformReset { s with schedule := rest } = t := by
      simpa [step, advance, cfg_ok_of_step h, hsch, agentStep] using h
    rfl
  case named =>
    have hu : FaultBitsNamed u := by rwa [FaultBitsNamed, hfault]
    obtain rfl | ⟨a, -, ht⟩ := ht
    · exact hu
    · exact ht.faultBits hu

end Sys2Proof.Machine

/-! # Invalid handles -/

namespace Sys2Proof.Machine

open Sys2Proof.Claims

theorem validHandle_eq_false {s : State} {h : Byte} (hh : ¬Claimed s h) : s.validHandle h = false :=
  Bool.eq_false_iff.2 fun hv => hh ((validHandle_iff s h).1 hv)

/-- The handle check fails and its command touches nothing (60_exceptions.md R268). -/
theorem withHandle_of_not_claimed {s : State} {h : Byte} (hh : ¬Claimed s h) (body : Nat → State × Result) :
    withHandle h s body = (s, lost 2#8) :=
  if_neg (ne_true_of_eq_false (validHandle_eq_false hh))

/-- A simple command's first check is that of its handle (60_exceptions.md R268). -/
theorem handlerCommand_of_not_claimed {i : Instr} {h : Byte} {s : State} (hi : handleOf i = some h)
    (hm : i.isMacro = false) (hh : ¬Claimed s h) : handlerCommand i s = (s, lost 2#8) := by
  cases i with
  | alloc | spd2dly | dly2spd => cases hi
  | moveBlock | waitIdle | moveTo | moveMulti => cases hm
  | get dev field =>
    simp only [handleOf, Option.ite_none_right_eq_some, Option.some.injEq] at hi
    obtain ⟨hfield, rfl⟩ := hi
    exact (if_neg (Nat.not_le.2 hfield)).trans (withHandle_of_not_claimed hh _)
  | _ =>
    cases hi
    simp only [handlerCommand, config2Cmd, config4Cmd, setDirCmd, setEnCmd, setDelayCmd, setAccelCmd, setPosCmd,
      setMinspdCmd, setMaxspdCmd, stkPushCmd, stkPopCmd, moveAsyncCmd, withHandle_of_not_claimed hh]

/-- The prologue of a command with one device checks its handle first. -/
theorem exec_of_isMacro_of_not_claimed {i : Instr} {h : Byte} {s : State} (hi : handleOf i = some h)
    (hm : i.isMacro = true) (hh : ¬Claimed s h) : exec i s = .next (done s (lost 2#8)) := by
  have hv := validHandle_eq_false hh
  cases i
  case moveBlock | waitIdle | moveTo =>
    cases hi
    simp only [exec, execMoveBlock, moveBlockPrologue, execWaitIdle, waitIdlePrologue, execMoveTo, moveToPrologue, hv]
    rfl
  case moveMulti => cases hi
  all_goals cases hm

/-- Settles O21: every command with a device checks its handle first; MOVE_MULTI checks them all after their number. -/
theorem invalidHandleTouchesNothing : Obligations.InvalidHandleTouchesNothing := by
  refine ⟨fun s i h hi hh => ?_, fun s q axes a hn ha hh => ?_⟩
  · cases hm : i.isMacro with
    | false =>
      rw [exec_of_simple hm, handlerCommand_of_not_claimed hi hm hh]
      rfl
    | true => exact exec_of_isMacro_of_not_claimed hi hm hh
  · rw [exec_moveMulti, if_neg (Nat.not_lt.2 hn), if_pos fun hall => hh (hall a ha)]

end Sys2Proof.Machine

/-! # The dispatch -/

namespace Sys2Proof.Machine

open Sys2Proof.Claims

/-! ## Which channels it serves (60_exceptions.md R274 to R276) -/

theorem irqLine_eq_false_iff (s : State) : s.irqLine = false ↔ s.irqFlags &&& s.irqEnable = 0#32 := by
  rw [State.irqLine, State.pending, bne_eq_false_iff_eq]

theorem dispatchStep_eq_none_iff (s : State) : dispatchStep s = none ↔ s.irqFlags &&& s.irqEnable = 0#32 := by
  rw [← irqLine_eq_false_iff, dispatchStep]
  cases s.irqLine <;> simp

/-- Clearing the taken flags is clearing the enabled ones (20_memory.md R84). -/
theorem State.flags_left (s : State) : s.irqFlags &&& ~~~s.pending = s.irqFlags &&& ~~~s.irqEnable := by
  ext e
  simp only [State.pending, BitVec.getElem_and, BitVec.getElem_not]
  cases s.irqFlags[e] <;> simp

theorem mem_channelsIn_pending (s : State) (c : Nat) :
    c ∈ channelsIn s.pending s.cfg.nCC ↔
      c < s.cfg.nCC ∧ s.irqFlags.getLsbD c = true ∧ s.irqEnable.getLsbD c = true := by
  rw [channelsIn, List.mem_filter, List.mem_range, State.pending, BitVec.getLsbD_and, Bool.and_eq_true]

/-- The channels are in ascending order, which with their members determines the list (R276). -/
theorem channelsIn_eq {snap : Word} {n : Nat} {l : List Nat} (hl : l.Pairwise (· < ·))
    (hmem : ∀ c, c ∈ l ↔ c ∈ channelsIn snap n) : channelsIn snap n = l :=
  (List.pairwise_lt_range.filter _).eq_of_mem_iff hl fun c => (hmem c).symm

/-! ## How it serves one (R275, R277) -/

theorem completeChannel_of_unmapped {s : State} {c : Nat} (h : s.slotOf c = none) :
    completeChannel s c = { s with fault := s.fault ||| 32#32 } := by
  simp only [completeChannel, h]
  rfl

theorem completeChannel_of_mapped {s : State} {c i : Nat} (h : s.slotOf c = some i) :
    completeChannel s c = runCallback i (s.completeDevice i) := by
  simp only [completeChannel, h]

/-- The callback that runs is the one the device had: clearing `running` leaves it. -/
theorem State.callback_completeDevice (s : State) (i : Nat) :
    ((s.completeDevice i).device i).callback = (s.device i).callback :=
  s.device_setRunning_congr i false Device.callback i

theorem runCallback_of_none {s : State} {i : Nat} (h : (s.device i).callback = .none) : runCallback i s = s := by
  simp only [runCallback, h]

theorem runCallback_of_ramp {s : State} {i : Nat} (h : (s.device i).callback = .ramp) :
    runCallback i s = accelCallback i s := by
  simp only [runCallback, h]

theorem runCallback_of_user {s : State} {i : Nat} {tag : Byte} (h : (s.device i).callback = .user tag) :
    runCallback i s = (s.handlers.headD []).foldl handlerStep (s.called tag i) := by
  simp only [runCallback, h]
  rfl

/-- Settles O56: DISPATCH folds over the ascending list of the taken flags, and each fold step is a case of the map
and of the callback. -/
theorem dispatchServesFlagsAscending : Obligations.DispatchServesFlagsAscending := by
  refine ⟨dispatchStep_eq_none_iff, fun s l hpending hl hmem => ?enabled, fun s c => ⟨completeChannel_of_unmapped,
    fun i hslot _ => ?mapped⟩⟩
  case enabled =>
    have hline : s.irqLine = true := by
      rwa [← Bool.not_eq_false, irqLine_eq_false_iff]
    have hchannels : channelsIn s.pending s.cfg.nCC = l :=
      channelsIn_eq hl fun c => (hmem c).trans (mem_channelsIn_pending s c).symm
    rw [(dispatchStep_some_iff s _).2 ⟨hline, rfl⟩, hchannels, s.flags_left]
  case mapped =>
    rw [completeChannel_of_mapped hslot]
    have hcallback := s.callback_completeDevice i
    exact ⟨fun hcb => runCallback_of_none (hcallback.trans hcb), fun hcb => runCallback_of_ramp (hcallback.trans hcb),
      fun _ hcb => runCallback_of_user (hcallback.trans hcb)⟩

/-! ## What it leaves alone (R279, R280) -/

/-- The flags, the result registers, the words of the descriptor being written and the replies to the host. -/
def State.hostSide (s : State) : Word × Result × List Word × List HostReply :=
  (s.irqFlags, s.result, s.cmdBuf, s.hostLog)

theorem SlotOnly.hostSide_eq {i : Nat} {s t : State} (h : SlotOnly i s t) : t.hostSide = s.hostSide := by
  obtain ⟨d, f, n, rfl⟩ := h
  rfl

theorem OneDevice.hostSide_eq {i : Nat} {s t : State} (h : OneDevice i s t) : t.hostSide = s.hostSide := by
  cases h with
  | slot h => exact h.hostSide_eq
  | arms => rfl

/-- A command in a handler writes one device, or is ALLOC, or writes nothing. -/
theorem handlerCommand_hostSide (i : Instr) (s : State) : (handlerCommand i s).1.hostSide = s.hostSide := by
  cases hi : handleOf i with
  | some h => exact (OneDevice.handlerCommand hi s).hostSide_eq
  | none =>
    cases i with
    | alloc =>
      change (allocCmd s).1.hostSide = s.hostSide
      unfold allocCmd
      split <;> rfl
    | spd2dly | dly2spd | get => simp only [handlerCommand, spd2dlyCmd_state, dly2spdCmd_state, getCmd_state]
    | moveMulti => rfl
    | _ => cases hi

theorem runHandler_hostSide (tag : Byte) (i : Nat) (s : State) : (runHandler tag i s).hostSide = s.hostSide :=
  List.foldlRecOn (motive := fun u => u.hostSide = s.hostSide) _ handlerStep (b := s.called tag i) rfl fun u hu c _ =>
    (handlerCommand_hostSide c u).trans hu

theorem runCallback_hostSide (i : Nat) (s : State) : (runCallback i s).hostSide = s.hostSide := by
  unfold runCallback
  split
  · rfl
  · exact (SlotOnly.accelCallback i s).hostSide_eq
  · exact runHandler_hostSide ..

theorem completeChannel_hostSide (s : State) (c : Nat) : (completeChannel s c).hostSide = s.hostSide := by
  unfold completeChannel
  split
  · rfl
  · exact runCallback_hostSide ..

/-- Settles O57: a dispatch writes what edits write (`dispatchStep_still`), and the host's side of the block not even
that; the flags it leaves are those it did not take. -/
theorem dispatchLeavesThePortAlone : Obligations.DispatchLeavesThePortAlone := by
  intro s t h
  obtain ⟨hcfg, hseq, hbusy, hpgq, hlog⟩ := State.still_inj.1 (dispatchStep_still h)
  obtain ⟨-, rfl⟩ := (dispatchStep_some_iff s t).1 h
  set u := { s with irqFlags := s.irqFlags &&& ~~~s.pending }
  have hside : ((channelsIn s.pending s.cfg.nCC).foldl completeChannel u).hostSide = u.hostSide :=
    List.foldlRecOn (motive := fun v => v.hostSide = u.hostSide) _ completeChannel rfl fun v hv c _ =>
      (completeChannel_hostSide v c).trans hv
  simp only [State.hostSide, Prod.mk.injEq] at hside
  obtain ⟨hflags, hresult, hbuf, hreplies⟩ := hside
  exact ⟨hseq, hbusy, hresult, hbuf, hpgq, hlog, hcfg, hreplies, hflags.trans s.flags_left⟩

end Sys2Proof.Machine

/-! # A claim lasts until reset

The claim on a slot is kept by every edit (`Edit.held_stays`). What the pulse generators hold, the registered programs and
the queued words, is left alone by every write but three: ALLOC's claim, on an unclaimed slot; a configuration, on a slot
without a program; and the sequencer's push (`sequencerStep_generators`), which is MOVE_BLOCK's. -/

namespace Sys2Proof.Machine

open Sys2Proof.Safety

/-! ## The claim (R303) -/

theorem State.inUse_of_held {s : State} {j : Nat} {x : Nat × Nat} (h : (s.device j).held = (true, x)) :
    (s.device j).inUse = true := congrArg Prod.fst h

theorem Edit.held_stays {k : Scope} {s t : State} {j : Nat} {x : Nat × Nat} (h : Edit k s t)
    (hj : (s.device j).held = (true, x)) : (t.device j).held = (true, x) := by
  cases h with
  | outside h => rwa [State.device_eq_of_bare h]
  | write hheld => exact (State.device_setDevice_congr Device.held hheld j).trans hj
  | raise => exact hj
  | arm => exact (s.device_armed_congr _ _ _ Device.held j).trans hj
  | claim _ _ hu => rwa [State.device_claim hu (State.inUse_of_held hj)]

theorem Edits.held_stays {k : Scope} {s t : State} {j : Nat} {x : Nat × Nat} (h : Edits k s t)
    (hj : (s.device j).held = (true, x)) : (t.device j).held = (true, x) :=
  h.preserve (p := fun u => (u.device j).held = (true, x)) Edit.held_stays hj

theorem Accepted.held_stays {k : Scope} {s t : State} {j : Nat} {x : Nat × Nat} (h : Accepted k s t)
    (hj : (s.device j).held = (true, x)) : (t.device j).held = (true, x) := by
  cases h with
  | ends h | starts h => exact (h.held_stays hj :)
  | block => exact (s.device_setRunning_congr _ _ Device.held j).trans hj

theorem Sequenced.held_stays {s t : State} {j : Nat} {x : Nat × Nat} (h : Sequenced s t)
    (hj : (s.device j).held = (true, x)) : (t.device j).held = (true, x) := by
  cases h with
  | goes h => exact (h.held_stays hj :)
  | pushes | ends => exact hj
  | drains => exact (s.device_setRunning_congr _ _ Device.held j).trans hj

theorem Turn.held_stays {a : Agent} {s t : State} {j : Nat} {x : Nat × Nat} (h : Turn a s t) (ha : a ≠ .platformReset)
    (hj : (s.device j).held = (true, x)) : (t.device j).held = (true, x) := by
  cases h with
  | accept _ h => exact h.held_stays hj
  | sequence _ h => exact h.held_stays hj
  | beat h => rwa [beatStep_device h]
  | pulse h => rwa [pulseStep_device h]
  | dispatch h =>
    exact dispatch_preserve (p := fun u => (u.device j).held = (true, x)) (fun _ hu => hu)
      (fun {u} i hu => (u.device_setRunning_congr i false Device.held j).trans hu) Edit.held_stays h hj
  | reset => exact absurd rfl ha

/-! ## What the pulse generators hold (10_state.md R25, R48) -/

/-- The program a slot has registered, once it is configured. -/
def Device.program (d : Device) : Option (Variant × Byte × Word) :=
  if d.configured then some (d.variant, d.basePin, d.clkdiv) else none

theorem Device.program_eq_some_iff {d : Device} {P : Variant × Byte × Word} :
    d.program = some P ↔ d.configured = true ∧ (d.variant, d.basePin, d.clkdiv) = P := by
  simp [Device.program]

/-- The programs and the queued words of the pulse generators. -/
def State.generators (s : State) : (Nat → Option (Variant × Byte × Word)) × List (List Word) :=
  (fun j => (s.device j).program, s.pgq)

theorem State.program_eq_of_generators {s t : State} (h : t.generators = s.generators) (j : Nat) :
    (t.device j).program = (s.device j).program := congrFun (congrArg Prod.fst h) j

theorem State.pgq_eq_of_generators {s t : State} (h : t.generators = s.generators) : t.pgq = s.pgq :=
  congrArg Prod.snd h

/-- A write of a field that is no part of the program. -/
theorem State.modDevice_generators (s : State) (i : Nat) (f : Device → Device)
    (h : (f (s.device i)).program = (s.device i).program := by rfl) : (s.modDevice i f).generators = s.generators :=
  Prod.ext (funext (State.device_setDevice_congr Device.program h)) rfl

theorem foldl_generators {α : Type} {f : State → α → State} (hf : ∀ s a, (f s a).generators = s.generators)
    (l : List α) (s : State) : (l.foldl f s).generators = s.generators :=
  List.foldlRecOn (motive := fun u => u.generators = s.generators) l f rfl fun u hu a _ => (hf u a).trans hu

/-! ## The shared operations -/

theorem State.setDelay_generators (s : State) (i v : Nat) : (s.setDelay i v).generators = s.generators := by
  obtain ⟨w, k, -, -, h⟩ := setDelay_cases s i v
  rw [h]
  exact s.modDevice_generators i fun d => { d with delay := s.cfg.clampDelay w }.recompute

theorem State.push_generators (s : State) (i : Nat) (v : Word) : (s.push i v).generators = s.generators := by
  obtain ⟨-, h⟩ | ⟨-, h⟩ := push_cases s i v
  · rw [h]
    rfl
  · rw [h]
    exact s.modDevice_generators i _

theorem State.pop_generators (s : State) (i : Nat) : (s.pop i).2.generators = s.generators :=
  s.modDevice_generators i fun d => { d with stack := d.stack.dropLast }

theorem State.startBurst_generators {s t : State} {i n : Nat} {cb : Callback} (h : s.startBurst i n cb = .ok t) :
    t.generators = s.generators := by
  obtain ⟨-, -, -, rfl⟩ := (startBurst_ok_iff ..).1 h
  exact s.modDevice_generators i fun d => { d with callback := cb, running := true }

theorem State.seqDispatch_generators (s : State) (i n : Nat) (cb : Callback) :
    (s.seqDispatch i n cb).generators = s.generators := by
  obtain h | h := seqDispatch_cases s i n cb
  · exact State.startBurst_generators h
  · rw [h]
    rfl

theorem moveAsyncCmd_generators (dev : Byte) (steps : Word) (cb : Callback) (s : State) :
    (moveAsyncCmd dev steps cb s).1.generators = s.generators :=
  withHandle_preserves (p := fun u => u.generators = s.generators) rfl fun i => by
    split
    next h => exact State.startBurst_generators h
    next => rfl

/-! ## The ramp callback -/

theorem accelDown_generators (i : Nat) (s : State) : (accelDown i s).generators = s.generators := by
  have hp := s.pop_generators i
  unfold accelDown
  split
  · split
    next h =>
      rw [h] at hp
      rw [State.setDelay_generators, hp]
    next => rfl
  · exact s.modDevice_generators i _

theorem State.countCoast_generators (s : State) (i : Nat) : (s.countCoast i).generators = s.generators := by
  unfold State.countCoast
  split
  · exact s.modDevice_generators i fun d => { d with coastingSlices := Config.freeCoast s.freeIx }
  · exact s.modDevice_generators i _

theorem accelUp_generators (i : Nat) (s : State) : (accelUp i s).generators = s.generators := by
  unfold accelUp
  split
  · rfl
  · dsimp only
    split
    · rw [State.setDelay_generators, State.countCoast_generators]
    · rw [State.setDelay_generators, State.push_generators]

theorem accelCallback_generators (i : Nat) (s : State) : (accelCallback i s).generators = s.generators := by
  unfold accelCallback
  dsimp only
  split
  · rfl
  · split
    · rfl
    · exact accelDown_generators i s
    · exact accelUp_generators i s

/-! ## The prologues -/

theorem State.beginMoveTo_generators (s : State) (i : Nat) (target minSpeed : Word) :
    (s.beginMoveTo i target minSpeed).generators = s.generators := by
  unfold State.beginMoveTo
  extract_lets dir s1 s2 s3
  calc (s3.clearStack i).generators = s3.generators := s3.modDevice_generators i _
    _ = s2.generators := s2.modDevice_generators i _
    _ = s1.generators := s1.setDelay_generators i _
    _ = s.generators := s.modDevice_generators i _

theorem State.beginAxis_generators (most : Nat) (s : State) (a : AxisTarget) :
    (State.beginAxis most s a).generators = s.generators := by
  unfold State.beginAxis
  extract_lets i dist dir s1 s2
  have hclear : s2.generators = s.generators := (s1.modDevice_generators i _).trans (s.modDevice_generators i _)
  split
  · split
    · rw [State.setDelay_generators, hclear]
    · exact hclear
  · exact hclear

/-- A command that starts the sequencer leaves the generators where the writes of its prologue do. -/
theorem macroCommand_generators {s t : State} {out : Prologue}
    (hout : ∀ u q, out = .starts u q → u.generators = s.generators) (h : macroCommand s out = .next t) :
    t.generators = s.generators := by
  cases out with
  | ends r =>
    cases h
    rfl
  | starts u q =>
    cases h
    exact (hout u q rfl :)

theorem moveBlockPrologue_generators {dev : Byte} {dir : Bool} {steps startDelay delayStep : Word} {s u : State}
    {q : Seq} (h : moveBlockPrologue dev dir steps startDelay delayStep s = .starts u q) :
    u.generators = s.generators := by
  unfold moveBlockPrologue at h
  dsimp only at h
  split_ifs at h
  cases h
  exact s.modDevice_generators _ _

theorem waitIdlePrologue_generators {dev : Byte} {s u : State} {q : Seq} (h : waitIdlePrologue dev s = .starts u q) :
    u.generators = s.generators := by
  unfold waitIdlePrologue at h
  split_ifs at h
  cases h
  rfl

theorem moveToPrologue_generators {dev : Byte} {target : Word} {s u : State} {q : Seq}
    (h : moveToPrologue dev target s = .starts u q) : u.generators = s.generators := by
  unfold moveToPrologue at h
  dsimp only at h
  split at h
  · cases h
  split at h
  · cases h
  split at h
  · split_ifs at h
    cases h
    exact s.beginMoveTo_generators ..
  · cases h

theorem moveMultiPrologue_generators {sequential : Bool} {axes : List (Byte × Word)} {s u : State} {q : Seq}
    (h : moveMultiPrologue sequential axes s = .starts u q) : u.generators = s.generators := by
  unfold moveMultiPrologue at h
  dsimp only at h
  split_ifs at h
  cases h
  exact foldl_generators (State.beginAxis_generators _) ..

/-- No command that starts the sequencer registers a program or queues a word at its acceptance. -/
theorem exec_generators {i : Instr} {s t : State} (hi : i.isMacro = true) (h : exec i s = .next t) :
    t.generators = s.generators := by
  cases i
  case moveBlock => exact macroCommand_generators (fun _ _ => moveBlockPrologue_generators) h
  case waitIdle => exact macroCommand_generators (fun _ _ => waitIdlePrologue_generators) h
  case moveTo => exact macroCommand_generators (fun _ _ => moveToPrologue_generators) h
  case moveMulti => exact macroCommand_generators (fun _ _ => moveMultiPrologue_generators) h
  all_goals cases hi

/-! ## The sequencer -/

theorem toStep_generators (i : Nat) (phase : Phase) (k rem half : Nat) (s : State) :
    (toStep i phase k rem half s).generators = s.generators := by
  cases phase with
  | accel | decel =>
    cases k with
    | zero => rfl
    | succ k => exact s.seqDispatch_generators ..
  | remainder =>
    unfold toStep
    dsimp only
    split
    · exact s.seqDispatch_generators ..
    · exact s.modDevice_generators i fun d => { d with accelDir := .down }

theorem rampAxis_generators (ctx : MultiCtx) (phase : Phase) (k j : Nat) (set : List Nat) (a : Axis) (s : State) :
    (rampAxis ctx phase k j set a s).generators = s.generators := by
  unfold rampAxis
  split
  · exact s.seqDispatch_generators ..
  · rfl

theorem remainderAxis_generators (ctx : MultiCtx) (k j : Nat) (set : List Nat) (a : Axis) (s : State) :
    (remainderAxis ctx k j set a s).generators = s.generators := by
  unfold remainderAxis
  split_ifs
  · rfl
  · rfl
  · exact s.seqDispatch_generators ..

theorem State.turnAxes_generators (s : State) (axes : List Axis) : (s.turnAxes axes).generators = s.generators :=
  foldl_generators (fun u (a : Axis) => u.modDevice_generators a.slot fun d => { d with accelDir := .down }) axes s

theorem multiStep_generators (ctx : MultiCtx) (phase : Phase) (k j : Nat) (set : List Nat) (s : State) :
    (multiStep ctx phase k j set s).generators = s.generators := by
  cases phase <;> cases ha : ctx.axes[j]?
  all_goals simp only [multiStep, ha]
  case accel.none | decel.none => rfl
  case remainder.none => exact s.turnAxes_generators _
  case remainder.some => exact remainderAxis_generators ..
  case accel.some | decel.some =>
    split
    · rfl
    · exact rampAxis_generators ..

/-- The sequencer registers no program, and queues a word only where MOVE_BLOCK is in progress (43_step_engine.md R193). -/
theorem sequencerStep_generators {s t : State} (h : sequencerStep s = some t) :
    t.generators = s.generators ∨
      ∃ i w, blockOn s i = true ∧ t.generators = (s.writePGQ i w).generators := by
  unfold sequencerStep at h
  split at h
  next => cases h
  next i k v dir delayStep hs =>
    cases k with
    | zero =>
      cases h
      exact .inl rfl
    | succ k =>
      unfold blockStep at h
      dsimp only at h
      split_ifs at h <;> cases h
      · exact .inl rfl
      · exact .inr ⟨i, _, (blockOn_iff s i).2 (by rw [hs]; rfl), rfl⟩
  next i r _ =>
    unfold blockDrainStep at h
    split_ifs at h
    cases h
    exact .inl (s.modDevice_generators i fun d => { d with running := false })
  next =>
    unfold waitIdleStep at h
    split_ifs at h
    cases h
    exact .inl rfl
  next =>
    cases h
    exact .inl (toStep_generators ..)
  next =>
    unfold toWaitStep at h
    split_ifs at h
    cases h
    exact .inl rfl
  next =>
    cases h
    exact .inl (multiStep_generators ..)
  next =>
    unfold multiWaitStep at h
    split_ifs at h <;> cases h <;> exact .inl rfl

/-! ## A registered program -/

/-- Slot `j` is claimed and has registered program `P` (10_state.md R25). -/
structure Programmed (j : Nat) (P : Variant × Byte × Word) (s : State) : Prop where
  inUse : (s.device j).inUse = true
  program : (s.device j).program = some P

section Programmed

variable {j : Nat} {P : Variant × Byte × Word} {s t : State}

theorem Programmed.of_generators (hs : Programmed j P s) (hu : (t.device j).inUse = true)
    (h : t.generators = s.generators) : Programmed j P t :=
  ⟨hu, (State.program_eq_of_generators h j).trans hs.program⟩

theorem Programmed.of_dev (hs : Programmed j P s) (h : t.dev = s.dev) : Programmed j P t := by
  have hd : t.device j = s.device j := by rw [State.device, State.device, h]
  exact ⟨hd ▸ hs.inUse, hd ▸ hs.program⟩

/-- A configuration of a slot without a program is of another slot (40_registry.md R127). -/
theorem Programmed.program_modDevice {i : Nat} (hs : Programmed j P s) (hi : ¬(s.device i).configured = true)
    (f : Device → Device) : ((s.modDevice i f).device j).program = some P := by
  have hij : i ≠ j := by
    rintro rfl
    exact hi (Device.program_eq_some_iff.1 hs.program).1
  rw [State.device_modDevice_ne hij, hs.program]

theorem Programmed.allocCmd (hs : Programmed j P s) : ((allocCmd s).1.device j).program = some P := by
  unfold Machine.allocCmd
  split
  next hi _ _ => rw [State.device_claim (firstUnused_spec hi).2 hs.inUse, hs.program]
  next => exact hs.program

/-- No command in handler context takes a program from a claimed slot. -/
theorem Programmed.handlerCommand (hs : Programmed j P s) (i : Instr) : Programmed j P (handlerCommand i s).1 := by
  refine ⟨(handlerCommand_edits i s).inUse hs.inUse, ?_⟩
  have hsame : ∀ {u : State}, u.generators = s.generators → (u.device j).program = some P := fun h =>
    (State.program_eq_of_generators h j).trans hs.program
  have hcheck {out : State × Result} {c : Prop} [Decidable c] {r : Result} (h : (out.1.device j).program = some P) :
      ((if c then (s, r) else out).1.device j).program = some P :=
    check_preserves (p := fun u => (u.device j).program = some P) hs.program h
  have hbody {h : Byte} {body : Nat → State × Result} (hb : ∀ i, ((body i).1.device j).program = some P) :
      ((withHandle h s body).1.device j).program = some P :=
    withHandle_preserves (p := fun u => (u.device j).program = some P) hs.program hb
  cases i with
  | alloc => exact hs.allocCmd
  | config2 =>
    exact hbody fun i => by
      dsimp only
      split_ifs with hc
      · exact hs.program
      · exact hs.program
      · exact hs.program_modDevice hc _
  | config4 =>
    exact hbody fun i => by
      split_ifs with hc
      · exact hs.program
      · exact hs.program_modDevice hc _
  | setDir | setEn | setAccel | setPos => exact hbody fun i => hsame (s.modDevice_generators i _)
  | setMinspd | setMaxspd => exact hbody fun i => hcheck (hsame (s.modDevice_generators i _))
  | setDelay => exact hbody fun i => hcheck (hsame (s.setDelay_generators i _))
  | spd2dly | dly2spd | get =>
    simpa only [Machine.handlerCommand, spd2dlyCmd_state, dly2spdCmd_state, getCmd_state] using hs.program
  | stkPush => exact hbody fun i => hcheck (hsame (s.push_generators i _))
  | stkPop =>
    exact hbody fun i => by
      have hpop := s.pop_generators i
      split <;> next h => exact hsame (by rwa [h] at hpop)
  | moveAsyncNone | moveAsyncRamp | moveAsyncUser => exact hsame (moveAsyncCmd_generators ..)
  | moveBlock | waitIdle | moveTo | moveMulti => exact hs.program

/-- No command at its acceptance takes a program from a claimed slot. -/
theorem Programmed.exec (hs : Programmed j P s) {i : Instr} (h : exec i s = .next t) :
    (t.device j).program = some P := by
  cases hi : i.isMacro with
  | false =>
    rw [exec_of_simple hi] at h
    cases h
    exact (hs.handlerCommand i).program
  | true => exact (State.program_eq_of_generators (exec_generators hi h) j).trans hs.program

/-! ## A program over a dispatch -/

theorem Programmed.runHandler (hs : Programmed j P s) (tag : Byte) (i : Nat) : Programmed j P (runHandler tag i s) :=
  List.foldlRecOn (motive := Programmed j P) _ handlerStep (b := s.called tag i) (hs.of_dev rfl) fun _ hu c _ =>
    (hu.handlerCommand c).of_dev rfl

theorem Programmed.runCallback (hs : Programmed j P s) (i : Nat) : Programmed j P (runCallback i s) := by
  unfold Machine.runCallback
  split
  · exact hs
  · exact hs.of_generators ((accelCallback_edits i s).inUse hs.inUse) (accelCallback_generators i s)
  · exact hs.runHandler ..

theorem Programmed.completeChannel (hs : Programmed j P s) (c : Nat) : Programmed j P (completeChannel s c) := by
  unfold Machine.completeChannel
  split
  · exact hs.of_dev rfl
  next i _ =>
    have hu : ((s.completeDevice i).device j).inUse = true :=
      (s.device_setRunning_congr i false Device.inUse j).trans hs.inUse
    exact (hs.of_generators hu (s.modDevice_generators i fun d => { d with running := false })).runCallback i

theorem Programmed.dispatchStep (hs : Programmed j P s) (h : dispatchStep s = some t) : Programmed j P t := by
  obtain ⟨-, rfl⟩ := (dispatchStep_some_iff s t).1 h
  exact List.foldlRecOn (motive := Programmed j P) _ Machine.completeChannel (hs.of_generators hs.inUse rfl)
    fun _ hu c _ => hu.completeChannel c

/-! ## A program over a step -/

theorem Programmed.runDecoded (hs : Programmed j P s) {d : Decoded} (h : runDecoded d s = .next t) :
    (t.device j).program = some P := by
  cases d with
  | command i => exact hs.exec h
  | illegalCommand | badArgument =>
    cases h
    exact hs.program

theorem Programmed.hostStep (hs : Programmed j P s) (h : hostStep s = some (.next t)) :
    (t.device j).program = some P := by
  unfold Machine.hostStep at h
  split at h
  · cases h
  · obtain hbare | ⟨d, u, hbare, h⟩ := hostAccess_cases (Option.some.inj h)
    · exact (hs.of_dev (State.eq_of_bare hbare State.dev)).program
    · exact (hs.of_dev (State.eq_of_bare hbare State.dev)).runDecoded h

theorem Programmed.agentStep (hs : Programmed j P s) {a : Agent} (ha : a ≠ .platformReset)
    (h : agentStep a s = some (.next t)) : (t.device j).program = some P := by
  cases a with
  | host => exact hs.hostStep h
  | sequencer =>
    obtain hg | ⟨i, w, -, hg⟩ := sequencerStep_generators (by simpa [Machine.agentStep] using h)
    all_goals exact (State.program_eq_of_generators hg j).trans hs.program
  | burst c => rw [beatStep_device (by simpa [Machine.agentStep] using h), hs.program]
  | pulseGen p => rw [pulseStep_device (by simpa [Machine.agentStep] using h), hs.program]
  | dispatcher => exact (hs.dispatchStep (by simpa [Machine.agentStep] using h)).program
  | platformReset => exact absurd rfl ha

theorem Programmed.step (hs : Programmed j P s) (hr : s.schedule.head? ≠ some .platformReset)
    (h : step s = .next t) : (t.device j).program = some P := by
  obtain ⟨-, ht⟩ | ⟨a, rest, hsch, ⟨-, ht⟩ | ⟨out, ha, ht⟩⟩ := step_cases (cfg_ok_of_step h)
  · cases h.symm.trans ht
    exact hs.program
  · cases h.symm.trans ht
    exact hs.program
  · cases ht.symm.trans h
    exact (hs.of_dev (t := { s with schedule := rest }) rfl).agentStep (by simpa [hsch] using hr) ha

end Programmed

/-! ## A claimed slot -/

theorem step_held_stays {s t : State} {j : Nat} {x : Nat × Nat} (hr : s.schedule.head? ≠ some .platformReset)
    (h : step s = .next t) (hj : (s.device j).held = (true, x)) : (t.device j).held = (true, x) := by
  obtain ⟨u, hbare, ht⟩ := step_turn h
  have hu : (u.device j).held = (true, x) := by rwa [State.device_eq_of_bare hbare]
  obtain rfl | ⟨a, ha, ht⟩ := ht
  · exact hu
  · exact ht.held_stays (fun hreset => hr (hreset ▸ ha)) hu

/-- A mapped channel is enabled (40_registry.md R121). -/
theorem Ledger.enabled_of_slotOf {s : State} {c i : Nat} (hs : Ledger s) (h : s.slotOf c = some i) :
    s.irqEnable.getLsbD c = true := by
  obtain ⟨-, hen, -, -⟩ := hs.registry.channels c (hs.lt_32_of_slotOf h)
  rw [hen, h, Option.isSome_some]

/-- Settles O17: no turn but the reset writes a claim or takes a program, and the invariant of the state after the step
says the rest of a claimed slot's channels. -/
theorem claimsLastUntilReset : Obligations.ClaimsLastUntilReset := by
  intro s t i hinv h hr hu
  have hheld : (t.device i).held = (true, (s.device i).pgChan, (s.device i).ccChan) :=
    step_held_stays hr h (Prod.ext hu rfl)
  simp only [Device.held, Prod.mk.injEq] at hheld
  obtain ⟨htu, hpg, hcc⟩ := hheld
  have ht : Ledger t := ((inv_iff t).1 (stepKeepsInvariant s t hinv h)).1
  have hslot : t.slotOf (s.device i).ccChan = some i := hcc ▸ ht.slotOf_ccChan htu
  obtain ⟨-, -, hpgFree⟩ := ht.registry.slots i (ht.slot_lt htu) htu
  obtain ⟨-, -, -, hccFree⟩ := ht.of_slotOf hslot
  refine ⟨htu, hpg, hcc, hslot, ht.enabled_of_slotOf hslot, fun hc => ?_, hpgFree, hcc ▸ hccFree⟩
  have hs : Programmed i _ s := ⟨hu, Device.program_eq_some_iff.2 ⟨hc, rfl⟩⟩
  obtain ⟨htc, hprogram⟩ := Device.program_eq_some_iff.1 (hs.step hr h)
  simp only [Prod.mk.injEq] at hprogram
  exact ⟨htc, hprogram⟩

end Sys2Proof.Machine

/-! # An armed transfer is dispatched

What keeps an agent enabled until that agent steps makes a fair run take its step (`Progressing.taken`, 00_scope.md R14). An
armed transfer goes three such ways: its full queue waits for a pulse, its queue with room for a beat, and the flag of
its last beat for a dispatch. In each only the agent waited for ends the wait, since a channel's transfer and a claimed
slot's queue have one writer (`Moving.agentStep`, `Moving.queue_eq`). -/

namespace Sys2Proof.Machine

open Sys2Proof.Safety

/-! ## Fair runs (R14) -/

theorem agentStep_inv {a : Agent} {s t : State} (hs : Inv s) (h : agentStep a s = some (.next t)) : Inv t := by
  obtain ⟨u, hu, rfl | ht⟩ := agentStep_cases h
  · exact inv_of_bare hu hs
  · exact ht.inv (inv_of_bare hu hs)

/-- A run of the command unit, the burst engines, the dispatcher and the pulse generators under the progress hypotheses,
from a legal state and without a reset (70_reset_and_hazards.md R312). -/
structure Progressing (out : Outside) (run : Nat → State) (chosen : Nat → Agent) : Prop where
  isRun : IsRun out run chosen
  fair : Fair out run chosen
  live : PgLive out run chosen
  noReset : ∀ n, chosen n ≠ .platformReset
  inv : Inv (run 0)

namespace Progressing

variable {out : Outside} {run : Nat → State} {chosen : Nat → Agent} {a : Agent}

theorem supply_inv (h : Progressing out run chosen) (n : Nat) : Inv (out.supply n (run n)) := by
  induction n with
  | zero => exact h.inv.supply out 0
  | succ n ih =>
    obtain hstep | ⟨-, hstep⟩ := h.isRun n
    · exact (agentStep_inv ih hstep).supply out (n + 1)
    · exact (hstep ▸ ih : Inv (run (n + 1))).supply out (n + 1)

/-- An agent that a property keeps enabled, and that alone ends the property, steps while it holds. -/
theorem taken (h : Progressing out run chosen) (hfair : FairFor out run chosen a) {p : State → Prop}
    (hsupply : ∀ {n : Nat} {s : State}, p s → p (out.supply n s))
    (henabled : ∀ {s : State}, Inv s → p s → Enabled a s)
    (hkeeps : ∀ {b : Agent} {s t : State}, b ≠ a → b ≠ .platformReset → Inv s → agentStep b s = some (.next t) →
      p s → p t) {n : Nat} (hn : p (run n)) :
    ∃ m, n ≤ m ∧ p (out.supply m (run m)) ∧ chosen m = a ∧
      agentStep a (out.supply m (run m)) = some (.next (run (m + 1))) := by
  have htaken : ∃ m, n ≤ m ∧ p (out.supply m (run m)) ∧ chosen m = a := by
    by_contra hnever
    have hstays : ∀ m, n ≤ m → p (out.supply m (run m)) := fun m hm => by
      induction m, hm using Nat.le_induction with
      | base => exact hsupply hn
      | succ m hm ih =>
        refine hsupply ?_
        obtain hstep | ⟨-, hstep⟩ := h.isRun m
        · exact hkeeps (fun hc => hnever ⟨m, hm, ih, hc⟩) (h.noReset m) (h.supply_inv m) hstep ih
        · exact hstep ▸ ih
    obtain ⟨m, hm, hc⟩ := hfair n fun m hm => henabled (h.supply_inv m) (hstays m hm)
    exact hnever ⟨m, hm, hstays m hm, hc⟩
  obtain ⟨m, hm, hp, rfl⟩ := htaken
  obtain hstep | ⟨hnone, -⟩ := h.isRun m
  · exact ⟨m, hm, hp, rfl, hstep⟩
  · simpa [Enabled, hnone] using henabled (h.supply_inv m) hp

end Progressing

/-! ## One writer (70_reset_and_hazards.md R303, R313) -/

theorem Ledger.slot_eq_of_pgChan {s : State} {i j : Nat} (hs : Ledger s) (hi : (s.device i).inUse = true)
    (hj : (s.device j).inUse = true) (h : (s.device i).pgChan = (s.device j).pgChan) : i = j :=
  hs.registry.pgDistinct i (hs.slot_lt hi) j (hs.slot_lt hj) hi hj h

/-- A word written to another queue. -/
theorem State.queue_writePGQ_ne {s : State} {i p : Nat} (h : (s.device i).pgChan ≠ p) (w : Word) :
    (s.writePGQ i w).queue p = s.queue p := State.queue_setQueue_ne h

/-- Only its own beats write the transfer of an armed channel (43_step_engine.md R190, R198). -/
theorem Turn.xferOf_eq {a : Agent} {s t : State} {c : Nat} (h : Turn a s t) (hs : Ledger s) (ha : a ≠ .burst c)
    (hr : a ≠ .platformReset) (hactive : (s.xferOf c).active = true) : t.xferOf c = s.xferOf c := by
  cases h with
  | accept _ h => exact h.xferOf_eq hs hactive
  | sequence _ h => exact h.xferOf_eq hs hactive
  | @beat e _ _ h =>
    have he : e ≠ c := fun hec => ha (hec ▸ rfl)
    obtain ⟨-, -, rfl⟩ := (beatStep_some_iff e s t).1 h
    split <;> exact State.xferOf_setXfer_ne he
  | @pulse p _ _ h =>
    obtain ⟨w, rest, -, rfl⟩ := (pulseStep_some_iff p s t).1 h
    rfl
  | dispatch h => exact hs.xferOf_dispatchStep h hactive
  | reset => exact absurd rfl hr

/-- Only a dispatch takes a completion flag (20_memory.md R84). -/
theorem Turn.flag_stays {a : Agent} {s t : State} {c : Nat} (h : Turn a s t) (ha : a ≠ .dispatcher)
    (hr : a ≠ .platformReset) (hf : s.irqFlags.getLsbD c = true) : t.irqFlags.getLsbD c = true := by
  cases h with
  | accept _ h =>
    cases h with
    | ends h | starts h => exact (h.irqFlags_eq ▸ hf :)
    | block => exact hf
  | sequence _ h =>
    cases h with
    | goes h => exact (h.irqFlags_eq ▸ hf :)
    | pushes | ends | drains => exact hf
  | @beat e _ _ h =>
    obtain ⟨-, -, rfl⟩ := (beatStep_some_iff e s t).1 h
    split
    · simpa using .inl hf
    · exact hf
  | @pulse p _ _ h =>
    obtain ⟨w, rest, -, rfl⟩ := (pulseStep_some_iff p s t).1 h
    exact hf
  | dispatch => exact absurd rfl ha
  | reset => exact absurd rfl hr

/-- Channel `c` is armed with transfer `x`, which it moves to pulse generator `p`. -/
structure Moving (c p : Nat) (x : Xfer) (s : State) : Prop where
  xfer : s.xferOf c = x
  active : x.active = true
  pgChan : (s.device x.slot).pgChan = p

namespace Moving

variable {c p : Nat} {x : Xfer} {s t : State} {a : Agent}

theorem slotOf (h : Moving c p x s) (hs : Ledger s) : s.slotOf c = some x.slot := by
  obtain ⟨rfl, hactive, -⟩ := h
  exact hs.slotOf_of_active hactive

/-- The armed slot is claimed, with its two channels. -/
theorem held (h : Moving c p x s) (hs : Ledger s) : (s.device x.slot).held = (true, p, c) := by
  obtain ⟨hu, hcc, -⟩ := hs.of_slotOf (h.slotOf hs)
  exact Prod.ext hu (Prod.ext h.pgChan hcc)

/-- The transfer goes on whatever another agent does (R303, R312). -/
theorem agentStep (h : Moving c p x s) (hs : Inv s) (ha : a ≠ .burst c) (hr : a ≠ .platformReset)
    (hstep : agentStep a s = some (.next t)) : Moving c p x t := by
  obtain ⟨u, hbare, ht⟩ := agentStep_cases hstep
  have hu : Ledger u := ((inv_iff u).1 (inv_of_bare hbare hs)).1
  have hmoving : Moving c p x u := by
    have hd := State.device_eq_of_bare hbare x.slot
    exact ⟨(State.eq_of_bare hbare fun v => v.xferOf c).trans h.xfer, h.active, hd ▸ h.pgChan⟩
  obtain rfl | ht := ht
  · exact hmoving
  · have hheld := ht.held_stays hr (hmoving.held hu)
    have hxfer := ht.xferOf_eq hu ha hr (hmoving.xfer ▸ h.active)
    exact ⟨hxfer.trans hmoving.xfer, h.active, congrArg (fun y => y.2.1) hheld⟩

/-- No other device writes the queue (10_state.md R41). -/
theorem pgChan_ne (h : Moving c p x s) (hs : Ledger s) {i : Nat} (hu : (s.device i).inUse = true)
    (hi : i ≠ x.slot) : (s.device i).pgChan ≠ p := fun hp => by
  have hslot : (s.device x.slot).inUse = true := State.inUse_of_held (h.held hs)
  exact hi (hs.slot_eq_of_pgChan hu hslot (hp.trans h.pgChan.symm))

/-- MOVE_BLOCK is on another device (10_state.md R39 (d)). -/
theorem ne_of_blockOn (h : Moving c p x s) (hs : Ledger s) {i : Nat} (hi : blockOn s i = true) : i ≠ x.slot := by
  rintro rfl
  obtain ⟨hu, hcc, -⟩ := hs.of_slotOf (h.slotOf hs)
  obtain ⟨-, -, hab, -⟩ := hs.exact hu
  simp [hcc, h.xfer, h.active, hi] at hab

/-- Another channel's transfer is of another device. -/
theorem ne_of_active (h : Moving c p x s) (hs : Ledger s) {e : Nat} (he : (s.xferOf e).active = true) (hec : e ≠ c) :
    (s.xferOf e).slot ≠ x.slot := by
  intro hslot
  obtain ⟨-, hcc, -⟩ := hs.of_slotOf (h.slotOf hs)
  obtain ⟨-, hee, -⟩ := hs.of_slotOf (hs.slotOf_of_active he)
  exact hec (by rw [← hee, hslot, hcc])

/-- The queue of the transfer changes by its own beats and pulses only. -/
theorem queue_eq (h : Moving c p x s) (hs : Inv s) (ha : a ≠ .burst c) (hp : a ≠ .pulseGen p)
    (hr : a ≠ .platformReset) (hstep : Machine.agentStep a s = some (.next t)) : t.queue p = s.queue p := by
  have hl : Ledger s := ((inv_iff s).1 hs).1
  have hsame : t.pgq = s.pgq → t.queue p = s.queue p := fun hq => by rw [State.queue, State.queue, hq]
  cases a with
  | host =>
    obtain ⟨u, hbare, ht⟩ := agentStep_cases hstep
    have hu : u.pgq = s.pgq := State.eq_of_bare hbare State.pgq
    obtain rfl | ⟨-, ht⟩ := ht
    · exact hsame hu
    · exact hsame (ht.pulses_eq.1.trans hu)
  | sequencer =>
    obtain hg | ⟨i, w, hi, hg⟩ := sequencerStep_generators (by simpa [Machine.agentStep] using hstep)
    · exact hsame (State.pgq_eq_of_generators hg)
    · have hne : (s.device i).pgChan ≠ p := h.pgChan_ne hl (hl.inUse_of_blockOn hi) (h.ne_of_blockOn hl hi)
      rw [← State.queue_writePGQ_ne hne w, State.queue, State.queue, State.pgq_eq_of_generators hg]
  | burst e =>
    have hec : e ≠ c := fun hec => ha (hec ▸ rfl)
    obtain ⟨he, -, rfl⟩ := (beatStep_some_iff e s t).1 (by simpa [Machine.agentStep] using hstep)
    obtain ⟨hu, -⟩ := hl.of_slotOf (hl.slotOf_of_active he)
    have hne : (s.device (s.xferOf e).slot).pgChan ≠ p := h.pgChan_ne hl hu (h.ne_of_active hl he hec)
    split <;> exact State.queue_writePGQ_ne hne _
  | pulseGen q =>
    have hqp : q ≠ p := fun hqp => hp (hqp ▸ rfl)
    obtain ⟨w, rest, -, rfl⟩ := (pulseStep_some_iff q s t).1 (by simpa [Machine.agentStep] using hstep)
    exact State.queue_setQueue_ne hqp
  | dispatcher =>
    obtain ⟨-, -, -, hpgq, -⟩ := State.still_inj.1 (dispatchStep_still (by simpa [Machine.agentStep] using hstep))
    exact hsame hpgq
  | platformReset => exact absurd rfl hr

/-- A queue is as full as it was where its words and the configuration are. -/
theorem queueFull_eq (h : Moving c p x s) (hs : Inv s) (ha : a ≠ .burst c) (hp : a ≠ .pulseGen p)
    (hr : a ≠ .platformReset) (hstep : Machine.agentStep a s = some (.next t)) : t.queueFull p = s.queueFull p := by
  rw [State.queueFull, State.queueFull, h.queue_eq hs ha hp hr hstep, State.cfg_eq_of_shape (agentStep_shape hr hstep)]

end Moving

/-! ## The three waits -/

/-- A pulse makes room (43_step_engine.md R206). -/
theorem pulseStep_room {p : Nat} {s t : State} (hs : QueuesBounded s) (h : pulseStep p s = some t) :
    t.queueFull p = false := by
  obtain ⟨w, rest, hq, rfl⟩ := (pulseStep_some_iff p s t).1 h
  have hp : p < s.pgq.length := State.lt_of_queue_ne_nil (by simp [hq])
  have hmem : s.queue p ∈ s.pgq := by simp [State.queue, hp]
  have hlen : (s.queue p).length ≤ s.cfg.qDepth := hs _ hmem
  have hroom : ((s.setQueue p rest).queue p).length < s.cfg.qDepth := by
    rw [State.queue_setQueue_self hp]
    simpa [hq] using hlen
  exact State.queueFull_eq_false hroom

theorem Cfg.qDepth_pos {c : Cfg} (h : c.ok = true) : 1 ≤ c.qDepth := by
  simp only [Cfg.ok, Bool.and_eq_true, decide_eq_true_eq] at h
  obtain ⟨-, -, -, -, -, -, -, -, -, -, -, hq, -⟩ := h
  exact hq

/-- A full queue holds a word, which its pulse generator can consume. -/
theorem enabled_pulseGen {p : Nat} {s : State} (hc : s.cfg.ok = true) (h : s.queueFull p = true) :
    Enabled (.pulseGen p) s := by
  have hdepth := Cfg.qDepth_pos hc
  have hlen := (s.queueFull_iff p).1 h
  cases hq : s.queue p with
  | nil =>
    rw [hq, List.length_nil] at hlen
    omega
  | cons w rest => simp [Enabled, agentStep_pulseGen ((pulseStep_some_iff p s _).2 ⟨w, rest, hq, rfl⟩)]

/-- An armed channel whose queue has room can beat (R190). -/
theorem Moving.enabled_burst {c p : Nat} {x : Xfer} {s : State} (h : Moving c p x s) (hroom : s.queueFull p = false) :
    Enabled (.burst c) s := by
  obtain ⟨rfl, hactive, rfl⟩ := h
  simp [Enabled, agentStep_burst ((beatStep_some_iff c s _).2 ⟨hactive, hroom, rfl⟩)]

/-- A flag asserts the line (60_exceptions.md R273, R274). -/
theorem enabled_dispatcher {c : Nat} {s : State} (hs : Ledger s) (h : s.irqFlags.getLsbD c = true) :
    Enabled .dispatcher s := by
  have hline : s.irqLine = true := by
    rw [State.irqLine, hs.pending_eq, bne_iff_ne]
    rintro hz
    simp [hz] at h
  simp [Enabled, agentStep, (dispatchStep_some_iff s _).2 ⟨hline, rfl⟩]

/-- A beat ends the transfer with its flag, or leaves it with one word less (R190). -/
theorem Moving.beat {c p : Nat} {x : Xfer} {s t : State} (h : Moving c p x s) (hs : Ledger s)
    (ht : beatStep c s = some t) :
    t.irqFlags.getLsbD c = true ∨ x.count ≠ 1#32 ∧ Moving c p ⟨x.count - 1#32, true, x.slot⟩ t := by
  have hc32 : c < 32 := hs.lt_32_of_slotOf (h.slotOf hs)
  obtain ⟨rfl, hactive, hp⟩ := h
  obtain ⟨-, -, rfl⟩ := (beatStep_some_iff c s t).1 ht
  split
  next => exact .inl (by simp [getLsbD_bitAt, hc32])
  next hcount => exact .inr ⟨hcount, State.xferOf_setXfer_self (State.lt_of_active hactive), rfl, hp⟩

/-- A full queue stays full until its pulse (20_memory.md R73). -/
theorem Moving.full_stays {c p : Nat} {x : Xfer} {s t : State} {b : Agent} (hb : b ≠ .pulseGen p)
    (hr : b ≠ .platformReset) (hs : Inv s) (hstep : Machine.agentStep b s = some (.next t))
    (h : Moving c p x s ∧ s.queueFull p = true) : Moving c p x t ∧ t.queueFull p = true := by
  obtain ⟨hm, hfull⟩ := h
  have hbc : b ≠ .burst c := by
    rintro rfl
    obtain ⟨-, hroom, -⟩ := (beatStep_some_iff c s t).1 (by simpa [Machine.agentStep] using hstep)
    rw [hm.xfer, hm.pgChan, hfull] at hroom
    cases hroom
  exact ⟨hm.agentStep hs hbc hr hstep, (hm.queueFull_eq hs hbc hb hr hstep).trans hfull⟩

/-- A queue keeps its room until its beat. -/
theorem Moving.room_stays {c p : Nat} {x : Xfer} {s t : State} {b : Agent} (hb : b ≠ .burst c)
    (hr : b ≠ .platformReset) (hs : Inv s) (hstep : Machine.agentStep b s = some (.next t))
    (h : Moving c p x s ∧ s.queueFull p = false) : Moving c p x t ∧ t.queueFull p = false := by
  obtain ⟨hm, hroom⟩ := h
  refine ⟨hm.agentStep hs hb hr hstep, ?_⟩
  by_cases hbp : b = .pulseGen p
  · subst hbp
    exact pulseStep_room hs.queues (by simpa [Machine.agentStep] using hstep)
  · exact (hm.queueFull_eq hs hb hbp hr hstep).trans hroom

theorem Moving.supply {c p : Nat} {x : Xfer} {s : State} (h : Moving c p x s) (out : Outside) (n : Nat) :
    Moving c p x (out.supply n s) := ⟨h.xfer, h.active, h.pgChan⟩

/-- A flag stays until a dispatch. -/
theorem agentStep_flag_stays {c : Nat} {s t : State} {b : Agent} (hb : b ≠ .dispatcher) (hr : b ≠ .platformReset)
    (hstep : agentStep b s = some (.next t)) (hs : s.irqFlags.getLsbD c = true) : t.irqFlags.getLsbD c = true := by
  obtain ⟨u, hbare, ht⟩ := agentStep_cases hstep
  have hu : u.irqFlags.getLsbD c = true := by rwa [State.eq_of_bare hbare State.irqFlags]
  obtain rfl | ht := ht
  · exact hu
  · exact ht.flag_stays hb hr hu

namespace Progressing

variable {out : Outside} {run : Nat → State} {chosen : Nat → Agent} {c p n : Nat} {x : Xfer}

/-- A full queue waits for a pulse (R312 (c)). -/
theorem exists_room (h : Progressing out run chosen) (hm : Moving c p x (run n)) :
    ∃ m, n ≤ m ∧ Moving c p x (run m) ∧ (run m).queueFull p = false := by
  cases hfull : (run n).queueFull p with
  | false => exact ⟨n, le_rfl, hm, hfull⟩
  | true =>
    obtain ⟨m, hnm, ⟨hm, -⟩, -, hstep⟩ := h.taken (h.live p) (p := fun s => Moving c p x s ∧ s.queueFull p = true)
      (fun hp => hp.imp_left fun hm => hm.supply out _) (fun hs hp => enabled_pulseGen hs.cfgOk hp.2)
      Moving.full_stays ⟨hm, hfull⟩
    have hs : Inv (out.supply m (run m)) := h.supply_inv m
    exact ⟨m + 1, by omega, hm.agentStep hs (by simp) (by simp) hstep,
      pulseStep_room hs.queues (by simpa [agentStep] using hstep)⟩

/-- A queue with room waits for a beat (R312 (a)). -/
theorem exists_beat (h : Progressing out run chosen) (hm : Moving c p x (run n)) :
    ∃ m, n ≤ m ∧ Moving c p x (out.supply m (run m)) ∧ beatStep c (out.supply m (run m)) = some (run (m + 1)) := by
  obtain ⟨k, hnk, hk⟩ := h.exists_room hm
  obtain ⟨-, -, hburst⟩ := h.fair
  obtain ⟨m, hkm, ⟨hm, -⟩, -, hstep⟩ := h.taken (hburst c) (p := fun s => Moving c p x s ∧ s.queueFull p = false)
    (fun hp => hp.imp_left fun hm => hm.supply out _) (fun _ hp => hp.1.enabled_burst hp.2) Moving.room_stays hk
  exact ⟨m, hnk.trans hkm, hm, by simpa [agentStep] using hstep⟩

/-- The words of a transfer are all moved, and the beat of the last sets the flag (43_step_engine.md R190, R191). A count
of 0 stands for 2^32 words here, as the count wraps (log 21). -/
theorem exists_flag (h : Progressing out run chosen) (hm : Moving c p x (run n)) :
    ∃ m, n ≤ m ∧ (run m).irqFlags.getLsbD c = true := by
  induction hk : (x.count - 1#32).toNat using Nat.strong_induction_on generalizing n x with
  | _ k ih =>
    obtain ⟨m, hnm, hm, hbeat⟩ := h.exists_beat hm
    obtain hflag | ⟨hcount, hnext⟩ := hm.beat ((inv_iff _).1 (h.supply_inv m)).1 hbeat
    · exact ⟨m + 1, by omega, hflag⟩
    · have hless : (x.count - 1#32 - 1#32).toNat < k := by bv_omega
      obtain ⟨m', hm', hflag⟩ := ih _ hless hnext rfl
      exact ⟨m', by omega, hflag⟩

end Progressing

/-- Settles O54: a fair run takes the beats of the transfer, as live pulse generators make room for them, and then the
dispatch its flag waits for. -/
theorem armedTransferIsDispatched : Obligations.ArmedTransferIsDispatched := by
  intro out run chosen hrun hfair hlive hreset hinv n c hactive
  have h : Progressing out run chosen := ⟨hrun, hfair, hlive, hreset, hinv⟩
  obtain ⟨k, hnk, hflag⟩ := h.exists_flag (n := n) (c := c) ⟨rfl, hactive, rfl⟩
  obtain ⟨-, hdispatch, -⟩ := hfair
  obtain ⟨m, hkm, hm, hchosen, hstep⟩ := h.taken hdispatch (p := fun s => s.irqFlags.getLsbD c = true) (fun hs => hs)
    (fun hs hp => enabled_dispatcher ((inv_iff _).1 hs).1 hp) (fun hb hr _ hstep => agentStep_flag_stays hb hr hstep)
    hflag
  have hpending := ((inv_iff _).1 (h.supply_inv m)).1.pending_eq
  exact ⟨m, hnk.trans hkm, hchosen, (hpending ▸ hm : (out.supply m (run m)).pending.getLsbD c = true), hstep⟩

end Sys2Proof.Machine

/-! # Every command and every step has a result

No command, no access of the host and no agent raises a fault or a refusal (70_reset_and_hazards.md R319). -/

namespace Sys2Proof.Machine

/-- The outcome is a next state. -/
def IsNext (out : Host.Outcome State Fault Refusal) : Prop := ∃ t, out = .next t

theorem isNext_next (t : State) : IsNext (.next t) := ⟨t, rfl⟩

theorem macroCommand_isNext (s : State) (out : Prologue) : IsNext (macroCommand s out) := by
  cases out <;> exact isNext_next _

theorem exec_isNext (i : Instr) (s : State) : IsNext (exec i s) := by
  cases hi : i.isMacro with
  | false =>
    rw [exec_of_simple hi]
    exact isNext_next _
  | true =>
    cases i
    case moveBlock | waitIdle | moveTo | moveMulti => exact macroCommand_isNext ..
    all_goals cases hi

theorem runDecoded_isNext (d : Decoded) (s : State) : IsNext (runDecoded d s) := by
  cases d with
  | command i => exact exec_isNext i s
  | illegalCommand | badArgument => exact isNext_next _

theorem acceptWord_isNext (w : Word) (s : State) : IsNext (acceptWord w s) := by
  unfold acceptWord
  split
  · exact isNext_next _
  · exact runDecoded_isNext ..

theorem windowWrite_isNext (r : WindowReg) (w : Word) (s : State) : IsNext (windowWrite r w s) := by
  by_cases hr : r = .cmd
  · subst hr
    unfold windowWrite
    dsimp only
    split
    · exact isNext_next _
    · exact acceptWord_isNext ..
  · rw [windowWrite_of_ne_cmd hr]
    exact isNext_next _

theorem hostAccess_isNext (op : HostOp) (s : State) : IsNext (hostAccess op s) := by
  cases op with
  | read addr size =>
    cases hreg : s.windowReg addr size with
    | none => exact hostAccess_read_rejected hreg ▸ isNext_next _
    | some r => exact hostAccess_read hreg ▸ isNext_next _
  | write addr size w =>
    cases hreg : s.windowReg addr size with
    | none => exact hostAccess_write_rejected hreg w ▸ isNext_next _
    | some r => exact hostAccess_write hreg w ▸ windowWrite_isNext r w s

theorem agentStep_isNext {a : Agent} {s : State} {out : Host.Outcome State Fault Refusal}
    (h : agentStep a s = some out) : IsNext out := by
  cases a with
  | host =>
    change hostStep s = some out at h
    unfold hostStep at h
    split at h <;> cases h
    exact hostAccess_isNext ..
  | sequencer | burst | pulseGen | dispatcher =>
    obtain ⟨t, -, rfl⟩ := Option.map_eq_some_iff.1 h
    exact isNext_next t
  | platformReset =>
    cases h
    exact isNext_next _

/-- Settles O9: each outcome of a command and of an agent's step is a next state, and `step` checks the configuration
before all else. -/
theorem noCommandAndNoStepStops : Obligations.NoCommandAndNoStepStops := by
  refine ⟨exec_isNext, fun s hc => ?_, fun s hc => ?_⟩
  · obtain ⟨-, h⟩ | ⟨a, rest, -, ⟨-, h⟩ | ⟨out, ha, h⟩⟩ := step_cases hc
    · exact ⟨_, h⟩
    · exact ⟨_, h⟩
    · exact h ▸ agentStep_isNext ha
  · simp [step, advance, hc]

end Sys2Proof.Machine

/-! # Reset -/

namespace Sys2Proof.Machine

/-- The step that is a reset (70_reset_and_hazards.md R300). -/
theorem step_of_reset {s : State} {agents : List Agent} (hc : s.cfg.ok = true)
    (hs : s.schedule = .platformReset :: agents) : step s = .next (platformReset { s with schedule := agents }) := by
  simp [step, advance, hc, hs, agentStep]

theorem platformReset_device (s : State) (i : Nat) : (platformReset s).device i = Device.reset := by
  simp [State.device, platformReset, State.resetOf]

theorem platformReset_xferOf (s : State) (c : Nat) : (platformReset s).xferOf c = Xfer.reset := by
  simp [State.xferOf, platformReset, State.resetOf]

theorem platformReset_queue (s : State) (p : Nat) : (platformReset s).queue p = [] := by
  simp [State.queue, platformReset, State.resetOf]

theorem platformReset_log (s : State) (p : Nat) : (platformReset s).log p = [] := by
  simp [State.log, platformReset, State.resetOf]

/-- A reset takes from the state it finds only what a reset leaves alone (R301). -/
theorem platformReset_idem (s : State) : platformReset (platformReset s) = platformReset s := rfl

/-- Settles O10: the arrays of the reset state hold their reset values at every index, and the rest is written out in
`State.resetOf`. -/
theorem resetGivesTheStatedValues : Obligations.ResetGivesTheStatedValues := by
  intro s agents hc hs
  have hxfer (c : Nat) := platformReset_xferOf { s with schedule := agents } c
  exact ⟨_, step_of_reset hc hs, fun i => congrArg Device.inUse (platformReset_device _ i), List.length_replicate, rfl,
    rfl, rfl, rfl, rfl, rfl, rfl, rfl, fun c => ⟨congrArg Xfer.active (hxfer c), congrArg Xfer.count (hxfer c)⟩,
    fun p => ⟨platformReset_queue .., platformReset_log ..⟩, (irqLine_eq_false_iff _).2 BitVec.zero_and,
    platformReset_idem _⟩

end Sys2Proof.Machine
